-- ==== Sys2Proof/Word.lean ====
section
/-! DEFINITION. The words of the block: spec/30_encoding.md rules R65, R66, R70.

A command word and a step word are whole words of fixed width.  No byte of either is addressable and the spec forbids a
byte order (spec/20_memory.md rule R55, spec/92_eei_decisions.md D37), so neither is ever cut into bytes. -/

namespace Sys2Proof

/-- The 32-bit word the host presents on the input `cmd` (R70). -/
abbrev CommandWord := BitVec 32

/-- The 40-bit word that stands at one address of the pattern ROM (R66). -/
abbrev StepWord := BitVec 40

end Sys2Proof
end

