-- ==== Sys2Proof/Syntax.lean ====
section
/-! DEFINITION. The instructions: one constructor for each row of spec/opcode_table.json. -/

namespace Sys2Proof

/-- The ten commands of the command port (spec/30_encoding.md rule R70) and the two forms of a step word of the pattern
ROM (rule R67).  Operands are the raw fields: decoding rejects or changes no value of a field (rule R69). -/
inductive Instr where
  /-- `NOP` (R160). -/
  | nop
  /-- `POLL` (R161). -/
  | poll
  /-- `SW_UPDATE` (R91). -/
  | swUpdate
  /-- `SW_GET` (R92). -/
  | swGet
  /-- `SW_CLEAR` (R93). -/
  | swClear
  /-- `SEQ_START pat`, `pat = cmd[2:0]` (R111).  5 to 7 are reserved (R73). -/
  | seqStart (pat : BitVec 3)
  /-- `SEQ_UPDATE` (R112). -/
  | seqUpdate
  /-- `SEQ_ABORT` (R115). -/
  | seqAbort
  /-- `PWM_CALC freq, duty`, `freq = cmd[23:8]`, `duty = cmd[7:0]` (R100). -/
  | pwmCalc (freq : BitVec 16) (duty : BitVec 8)
  /-- `LVG_UPDATE` (R130). -/
  | lvgUpdate
  /-- `STEP duration, frequency, duty`: the step word with a nonzero duration (R113). -/
  | stepWord (duration : BitVec 16) (freq : BitVec 16) (duty : BitVec 8)
  /-- `END`: the step word with duration 0; its other 24 bits are ignored (R114). -/
  | endWord
  deriving DecidableEq, Repr, Inhabited

/-- The five pattern names of rule R68, in the order of their ids 0 to 4. -/
inductive PatternId where
  /-- id 0, `PAT_HORN_STEADY`. -/
  | hornSteady
  /-- id 1, `PAT_BELL_DECAY`. -/
  | bellDecay
  /-- id 2, `PAT_CHARGE_CHIME`. -/
  | chargeChime
  /-- id 3, `PAT_LOWBATT_CHIME`. -/
  | lowBattChime
  /-- id 4, `PAT_MINI_HONK`. -/
  | miniHonk
  deriving DecidableEq, Repr, Inhabited

end Sys2Proof
end

