-- ==== Sys2Proof/WellFormed.lean ====
section
/-! DEFINITION. Which instruction terms stand for an encoding the spec gives: spec/30_encoding.md rules R67, R73. -/

namespace Sys2Proof

/-- A `SEQ_START` names one of the five patterns (`pat` 5 to 7 is reserved, R73), and a `STEP` has a nonzero duration (a
step word of duration 0 is an `END`, R67).  Every other operand value is legal (R74, R105). -/
def Instr.wf : Instr → Bool
  | .seqStart pat => decide (pat.toNat ≤ 4)
  | .stepWord duration _ _ => decide (duration ≠ 0#16)
  | .nop => true
  | .poll => true
  | .swUpdate => true
  | .swGet => true
  | .swClear => true
  | .seqUpdate => true
  | .seqAbort => true
  | .pwmCalc _ _ => true
  | .lvgUpdate => true
  | .endWord => true

end Sys2Proof
end

