-- ==== Sys2Proof/Decode.lean ====
section
/-! DEFINITION. Reading and writing the words of an instruction: spec/30_encoding.md rules R66 to R74. -/

namespace Sys2Proof

/-- Why a command word is no instruction: the reserved encodings of rule R73. -/
inductive DecodeError where
  /-- `op` is 10 to 15. -/
  | reservedOp (op : BitVec 4)
  /-- `op` is 5 (`SEQ_START`) and `pat` is 5, 6 or 7. -/
  | reservedPattern (pat : BitVec 3)
  deriving DecidableEq, Repr

/-- `op = cmd[31:28]` (R71). -/
def opField (w : CommandWord) : BitVec 4 := w.extractLsb' 28 4

/-- `pat = cmd[2:0]` of a `SEQ_START` (R71). -/
def patField (w : CommandWord) : BitVec 3 := w.extractLsb' 0 3

/-- `freq = cmd[23:8]` of a `PWM_CALC` (R71). -/
def freqField (w : CommandWord) : BitVec 16 := w.extractLsb' 8 16

/-- `duty = cmd[7:0]` of a `PWM_CALC` (R71). -/
def dutyField (w : CommandWord) : BitVec 8 := w.extractLsb' 0 8

/-- The `SEQ_START` operand: ids 0 to 4 name patterns, 5 to 7 are reserved (R68, R73). -/
def decodePattern (pat : BitVec 3) : Except DecodeError Instr :=
  if pat.toNat ≤ 4 then .ok (.seqStart pat) else .error (.reservedPattern pat)

/-- A command word is selected by `op` alone; the bits that are no operand are ignored (R70, R72). -/
def decodeCommand (w : CommandWord) : Except DecodeError Instr :=
  match (opField w).toNat with
  | 0 => .ok .nop
  | 1 => .ok .poll
  | 2 => .ok .swUpdate
  | 3 => .ok .swGet
  | 4 => .ok .swClear
  | 5 => decodePattern (patField w)
  | 6 => .ok .seqUpdate
  | 7 => .ok .seqAbort
  | 8 => .ok (.pwmCalc (freqField w) (dutyField w))
  | 9 => .ok .lvgUpdate
  | _ => .error (.reservedOp (opField w))

/-- `duration = bits [39:24]` of a step word (R66). -/
def stepDuration (w : StepWord) : BitVec 16 := w.extractLsb' 24 16

/-- `frequency = bits [23:8]` of a step word (R66). -/
def stepFreq (w : StepWord) : BitVec 16 := w.extractLsb' 8 16

/-- `duty = bits [7:0]` of a step word (R66). -/
def stepDuty (w : StepWord) : BitVec 8 := w.extractLsb' 0 8

/-- The two forms of a step word, told apart by the duration alone (R67).  No step word is illegal (R74). -/
def decodeStepWord (w : StepWord) : Instr :=
  if stepDuration w = 0#16 then .endWord else .stepWord (stepDuration w) (stepFreq w) (stepDuty w)

/-- The two kinds of word that carry an instruction (R65). -/
inductive Encoded where
  /-- A word of the command port. -/
  | command (w : CommandWord)
  /-- A word of the pattern ROM. -/
  | romWord (w : StepWord)
  deriving DecidableEq, Repr

/-- Every word of either kind is an instruction or is rejected by name. -/
def decode : Encoded → Except DecodeError Instr
  | .command w => decodeCommand w
  | .romWord w => .ok (decodeStepWord w)

/-- A command without operands: the ignored bits [27:0] are zero in the canonical encoding (R72). -/
def encodeOp (op : BitVec 4) : CommandWord := op ++ 0#28

/-- The canonical encoding of an instruction (R66, R70 to R72; the canonical `END` is all zero, R67). -/
def encode : Instr → Encoded
  | .nop => .command (encodeOp 0)
  | .poll => .command (encodeOp 1)
  | .swUpdate => .command (encodeOp 2)
  | .swGet => .command (encodeOp 3)
  | .swClear => .command (encodeOp 4)
  | .seqStart pat => .command (0x5#4 ++ 0#25 ++ pat)
  | .seqUpdate => .command (encodeOp 6)
  | .seqAbort => .command (encodeOp 7)
  | .pwmCalc freq duty => .command (0x8#4 ++ 0#4 ++ freq ++ duty)
  | .lvgUpdate => .command (encodeOp 9)
  | .stepWord duration freq duty => .romWord (duration ++ freq ++ duty)
  | .endWord => .romWord 0

/-- The instruction the decoder reads from the `nbits` bits `w`: a command word has 32 bits, a step word 40; no
instruction has another length (R65). -/
def decodeTableWord (nbits w : Nat) : Option Instr :=
  if nbits = 32 then (decodeCommand (BitVec.ofNat 32 w)).toOption
  else if nbits = 40 then some (decodeStepWord (BitVec.ofNat 40 w))
  else none

end Sys2Proof
end

