-- ==== Sys2Proof/Config.lean ====
section
/-! DEFINITION. What an implementation fixes: the parameter record of spec/00_scope.md rule R2, its constraints (rules R3
to R6), and the uninterpreted record the reset state has. -/

namespace Sys2Proof

/-- `PATTERN_BASE[0..4]`: the ROM address of step 0 of each pattern (R2, R53). -/
structure PatternBases where
  hornSteady : Nat
  bellDecay : Nat
  chargeChime : Nat
  lowBattChime : Nat
  miniHonk : Nat
  deriving DecidableEq, Repr

/-- `PATTERN_BASE[p]`. -/
def PatternBases.get (b : PatternBases) : PatternId → Nat
  | .hornSteady => b.hornSteady
  | .bellDecay => b.bellDecay
  | .chargeChime => b.chargeChime
  | .lowBattChime => b.lowBattChime
  | .miniHonk => b.miniHonk

/-- The parameters of the block, exactly those of rule R2's table.  The five that the table gives a default have it here;
the others are OPEN and have none. -/
structure Params where
  /-- `TICK_W`: width of the input `tick`. -/
  tickW : Nat := 16
  /-- `SW_ACTIVE_LEVEL`: the level of `raw_level` that means pressed; `false` is level 0, active low. -/
  swActiveLevel : Bool := false
  /-- `DEB_MAX`. -/
  debMax : Nat
  /-- `DEB_PRESS`. -/
  debPress : Nat
  /-- `DEB_RELEASE`. -/
  debRelease : Nat
  /-- `DEB_SEED`. -/
  debSeed : Nat
  /-- `CLOCK_HZ`. -/
  clockHz : Nat
  /-- `PRESCALER`. -/
  prescaler : Nat
  /-- `MIN_FREQ`. -/
  minFreq : Nat
  /-- `MAX_FREQ`. -/
  maxFreq : Nat
  /-- `PERIOD_MAX`. -/
  periodMax : Nat := 65535
  /-- `PATTERN_ROM`: the step words at addresses 0, 1, 2, … (R50). -/
  patternRom : List StepWord
  /-- `PATTERN_BASE`. -/
  patternBase : PatternBases
  /-- `IDX_W`. -/
  idxW : Nat := 8
  /-- `T_KILL`. -/
  tKill : Nat
  /-- `T_MAX_HONK`. -/
  tMaxHonk : Nat
  /-- `T_COMMIT_INIT`. -/
  tCommitInit : Nat
  /-- `T_COMMIT`. -/
  tCommit : Nat
  /-- `T_REBEEP_WAIT`. -/
  tRebeepWait : Nat
  /-- `LV_COUNT_MAX`. -/
  lvCountMax : Nat
  /-- `LV_CONFIRM`. -/
  lvConfirm : Nat
  /-- `DAC_CRITICAL`: an opaque code that no rule uses (D32). -/
  dacCritical : Nat
  /-- `DAC_LOWBATT`: an opaque code that no rule uses (D32). -/
  dacLowBatt : Nat
  /-- `ENDBEEP_FALLS_INTO_DEAD`. -/
  endBeepFallsIntoDead : Bool := true
  deriving DecidableEq, Repr

/-- The place of the first end sentinel (duration 0) in a list of step words. -/
def firstEnd : List StepWord → Option Nat
  | [] => none
  | w :: ws => if stepDuration w = 0#16 then some 0 else (firstEnd ws).map (· + 1)

/-- The `n` of rule R6 for pattern `p`: how many non-terminal steps stand before its sentinel; `none` where the pattern
runs out of the ROM (or starts outside it) without one. -/
def Params.patternLength (p : Params) (id : PatternId) : Option Nat :=
  firstEnd (p.patternRom.drop (p.patternBase.get id))

/-- Rule R6 for one pattern: it has a sentinel and fewer than `2^IDX_W` steps before it. -/
def Params.patternOk (p : Params) (id : PatternId) : Bool :=
  match p.patternLength id with
  | some n => decide (n < 2 ^ p.idxW)
  | none => false

/-- Rule R3. -/
def Params.dscOk (p : Params) : Bool :=
  decide (1 ≤ p.debPress ∧ p.debPress < p.debMax - p.debRelease ∧ 1 ≤ p.debRelease ∧ p.debSeed ≤ p.debMax)

/-- Rule R4. -/
def Params.pdcOk (p : Params) : Bool :=
  decide (1 ≤ p.minFreq ∧ p.minFreq ≤ p.maxFreq ∧ p.maxFreq ≤ 65535 ∧ 1 ≤ p.prescaler ∧ 1 ≤ p.clockHz)

/-- Every arm value is one that the timers can hold: `guard_timer` and `commit_timer` range over [0, 65535]
(spec/10_state.md rule R25, spec/92_eei_decisions.md D3), and rule R131 loads them with these parameters whole. -/
abbrev Params.TimeoutsFit (p : Params) : Prop :=
  p.tKill ≤ 65535 ∧ p.tMaxHonk ≤ 65535 ∧ p.tCommitInit ≤ 65535 ∧ p.tCommit ≤ 65535 ∧ p.tRebeepWait ≤ 65535

/-- Rule R5, within the range of the two timers: R5 asks of a timeout only that it is a natural number, and that the model
refuses one above 65535 is DEDUCED, log entry 5. -/
def Params.lvgOk (p : Params) : Bool :=
  decide (1 ≤ p.lvConfirm ∧ p.lvConfirm ≤ p.lvCountMax ∧ p.TimeoutsFit)

/-- Rule R6. -/
def Params.romOk (p : Params) : Bool :=
  p.patternOk .hornSteady && p.patternOk .bellDecay && p.patternOk .chargeChime && p.patternOk .lowBattChime &&
    p.patternOk .miniHonk

/-- Rules R3 to R6 together, and the range of the timers (R25). -/
def Params.ok (p : Params) : Bool := p.dscOk && p.pdcOk && p.lvgOk && p.romOk

/-- A parameter record that the model accepts.  A record that breaks a rule cannot be one: that is how the model refuses a
configuration (R3 to R6; spec/93_implementation_defined.md V8, V9): DESIGN CHOICE, log entry 12. -/
structure Config where
  params : Params
  ok : params.ok = true
  deriving DecidableEq, Repr

/-- The first sentinel of a list stands inside it. -/
theorem firstEnd_lt_length : ∀ {ws : List StepWord} {n : Nat}, firstEnd ws = some n → n < ws.length
  | [], _, h => by simp [firstEnd] at h
  | w :: ws, n, h => by
    by_cases hw : stepDuration w = 0#16
    · simp [firstEnd, hw] at h
      simp [← h]
    · simp only [firstEnd, hw, if_false, Option.map_eq_some_iff] at h
      obtain ⟨m, hm, rfl⟩ := h
      simpa using firstEnd_lt_length hm

/-- The timeouts of an accepted record fit the timers (R25, D3). -/
theorem Config.timeoutsFit (c : Config) : c.params.TimeoutsFit := by
  have h := c.ok
  simp only [Params.ok, Params.lvgOk, Bool.and_eq_true, decide_eq_true_eq] at h
  exact h.1.2.2.2

/-- Every pattern of an accepted record has a length, below `2^IDX_W` (R6). -/
theorem Config.patternLength_some (c : Config) (id : PatternId) :
    ∃ n, c.params.patternLength id = some n ∧ n < 2 ^ c.params.idxW := by
  have h := c.ok
  simp only [Params.ok, Params.romOk, Bool.and_eq_true] at h
  have hp : c.params.patternOk id = true := by cases id <;> simp [h]
  unfold Params.patternOk at hp
  split at hp
  · exact ⟨_, ‹_›, of_decide_eq_true hp⟩
  · cases hp

/-- Every pattern of an accepted record starts inside the ROM (R6, R52). -/
theorem Config.patternBase_lt (c : Config) (id : PatternId) :
    c.params.patternBase.get id < c.params.patternRom.length := by
  obtain ⟨n, hn, -⟩ := c.patternLength_some id
  have := firstEnd_lt_length hn
  simp only [List.length_drop] at this
  omega

/-- Which rule a refused parameter record breaks. -/
inductive ConfigError where
  /-- Rule R3. -/
  | debounce
  /-- Rule R4. -/
  | pwm
  /-- Rule R5, or a timeout that the timers cannot hold (log entry 5). -/
  | guard
  /-- Rule R6. -/
  | patternRom
  deriving DecidableEq, Repr

/-- Accept a parameter record, or refuse it by the first rule it breaks (R3 to R6, R199). -/
def Config.ofParams (p : Params) : Except ConfigError Config :=
  if h : p.ok = true then .ok ⟨p, h⟩
  else if p.dscOk = false then .error .debounce
  else if p.pdcOk = false then .error .pwm
  else if p.lvgOk = false then .error .guard
  else .error .patternRom

/-- Some accepted record: Lean takes the name of an uninterpreted constant only of a type that has a member.  Nothing else
uses it, and no theorem can learn it through `Config.uninterpreted`. -/
def Config.someMember : Config where
  params :=
    { debMax := 3, debPress := 1, debRelease := 1, debSeed := 0, clockHz := 1, prescaler := 1, minFreq := 1, maxFreq := 1,
      patternRom := [0], patternBase := ⟨0, 0, 0, 0, 0⟩, tKill := 0, tMaxHonk := 0, tCommitInit := 0, tCommit := 0,
      tRebeepWait := 0, lvCountMax := 1, lvConfirm := 1, dacCritical := 0, dacLowBatt := 0 }
  ok := by decide

/-- An accepted parameter record of which nothing but its acceptance is known. -/
opaque Config.uninterpreted [Inhabited Config] : Config

/-- The configuration of the block that `State.reset` is about: any accepted record whatever.  The OPEN parameters of rule
R2 have no value in the spec (spec/92_eei_decisions.md section 2), and a model must not build in REF (R10): DESIGN CHOICE, log
entry 1. -/
def Config.platform : Config := @Config.uninterpreted ⟨Config.someMember⟩

end Sys2Proof
end

