-- ==== Sys2Proof/Machine/State.lean ====
section
/-! DEFINITION. The state of the machine as plain data: the 20 registers of spec/10_state.md rules R22 to R25, the parameter
record and the inputs that rule R162 gives a step beside them, and the outputs of the latest command (rule R27).

Ranges are not built into the types: a counter is an unbounded natural, as spec/92_eei_decisions.md D3 allows.  Safety.lean
states the ranges of rules R22 to R25 and R35 as invariants, which reset meets and every step keeps; the configuration
holds the timers to theirs (DEDUCED, log entry 5). -/

namespace Sys2Proof.Machine

/-- The values of `lvg_state` (R75). -/
inductive GuardState where
  /-- 0, INIT. -/
  | init
  /-- 1, KILL. -/
  | kill
  /-- 2, CHECK_BELL (CB). -/
  | checkBell
  /-- 3, CHECK_HORN_IDLE (CHI). -/
  | checkHornIdle
  /-- 4, CHECK_HORN_ACTIVE (CHA). -/
  | checkHornActive
  /-- 5, END_BEEP (EB). -/
  | endBeep
  /-- 6, DEAD. -/
  | dead
  /-- 7, reserved; no rule writes it (R75, R141).  DESIGN CHOICE, log entry 11: the value is kept, though V6 lets a model drop
  it. -/
  | reserved
  deriving DecidableEq, Repr

/-- The comparator level that `cmp_sel` selects: 0 and 1 (R24, R76). -/
inductive CmpLevel where
  /-- 0, the "is power critically low" level `DAC_CRITICAL`. -/
  | critical
  /-- 1, the "sustained low battery" level `DAC_LOWBATT`. -/
  | lowBatt
  deriving DecidableEq, Repr

/-- The input `config_mode`: 0 and 1 (R26, R76). -/
inductive ConfigMode where
  /-- 0, "full bell behavior". -/
  | fullBell
  /-- 1, "abbreviated honk behavior". -/
  | abbreviatedHonk
  deriving DecidableEq, Repr

/-- The indicators the block drives: the red one only (R24). -/
inductive Indicator where
  | red
  deriving DecidableEq, Repr

/-- The two numbers the PWM peripheral is programmed with (R100). -/
structure Tone where
  period : Nat
  compare : Nat
  deriving DecidableEq, Repr

/-- The effect events: the calls a command makes on the external collaborators (spec/00_scope.md section 6, R9). -/
inductive Event where
  /-- `SetCmpThreshold(sel)`. -/
  | setCmpThreshold (sel : CmpLevel)
  /-- `ProgramTone(period, compare)`. -/
  | programTone (tone : Tone)
  /-- `SetHorn(b)`. -/
  | setHorn (on : Bool)
  /-- `SetIndicator(id, b)`. -/
  | setIndicator (id : Indicator) (on : Bool)
  deriving DecidableEq, Repr

/-- The six inputs (R26), as they stand on the pins. -/
structure Inputs where
  /-- `cmd`. -/
  cmd : CommandWord
  /-- `tick`: the count of the tick source, of which the block sees the low `TICK_W` bits. -/
  tick : Nat
  /-- `raw_level`: the electrical level of the button line. -/
  rawLevel : Bool
  /-- `cmp_tripped`. -/
  cmpTripped : Bool
  /-- `config_mode`. -/
  configMode : ConfigMode
  /-- `charging`. -/
  charging : Bool
  deriving DecidableEq, Repr

/-- The result outputs of a command, valid for that command only (R27, R77). -/
structure Result where
  /-- `res_bool`. -/
  resBool : Bool
  /-- `res_period`. -/
  resPeriod : Nat
  /-- `res_compare`. -/
  resCompare : Nat
  /-- `cmd_err`. -/
  cmdErr : Bool
  deriving DecidableEq, Repr

/-- What a command that defines no result gives (R27). -/
def Result.zero : Result := ⟨false, 0, 0, false⟩

/-- The DSC registers (R22). -/
structure Dsc where
  /-- `sw_count`, in [0, DEB_MAX]. -/
  count : Nat
  /-- `sw_status`: 1 = pressed. -/
  status : Bool
  /-- `sw_last_tick`. -/
  lastTick : Nat
  deriving DecidableEq, Repr

/-- The TSE registers (R23). -/
structure Tse where
  /-- `seq_pattern`. -/
  pattern : PatternId
  /-- `seq_index`. -/
  index : Nat
  /-- `seq_remaining`. -/
  remaining : Nat
  /-- `seq_last_tick`. -/
  lastTick : Nat
  /-- `seq_active`: 1 = playing. -/
  active : Bool
  deriving DecidableEq, Repr

/-- The output registers (R24). -/
structure OutputRegs where
  /-- `tone_period` and `tone_compare`. -/
  tone : Tone
  /-- `horn_out`: 1 = horn driven on. -/
  hornOut : Bool
  /-- `ind_red`: 1 = red indicator asserted. -/
  indRed : Bool
  /-- `cmp_sel`. -/
  cmpSel : CmpLevel
  deriving DecidableEq, Repr

/-- The LVG registers (R25). -/
structure Lvg where
  /-- `lvg_state`. -/
  state : GuardState
  /-- `guard_timer`, in [0, 65535] (log entry 5). -/
  guardTimer : Nat
  /-- `commit_timer`, in [0, 65535] (log entry 5). -/
  commitTimer : Nat
  /-- `lv_count`, in [0, LV_COUNT_MAX]. -/
  lvCount : Nat
  /-- `lv_sticky`: 1 = low voltage confirmed. -/
  lvSticky : Bool
  /-- `sel_pattern`. -/
  selPattern : PatternId
  /-- `lvg_last_tick`. -/
  lastTick : Nat
  deriving DecidableEq, Repr

/-- The machine between two commands.  The first four fields are the 20 architectural registers, and nothing else of the
block persists (R20).  The other fields hold what a step takes and gives beside them (R162): the parameter record, which no
command changes (R2); the values on the input pins now, and the values the host will put there for the commands that
follow; and the result and the ordered effect events of the latest command. -/
structure State where
  /-- The DSC's three registers. -/
  dsc : Dsc
  /-- The TSE's five registers. -/
  tse : Tse
  /-- The five output registers. -/
  out : OutputRegs
  /-- The LVG's seven registers. -/
  lvg : Lvg
  /-- The parameter record (R2). -/
  config : Config
  /-- The inputs the next command samples (R26). -/
  pins : Inputs
  /-- The inputs of the commands after that, in order; when it is empty the pins keep their values: DESIGN CHOICE, log
  entry 3. -/
  upcoming : List Inputs
  /-- The result outputs of the latest command (R27); no command reads them: DESIGN CHOICE, log entry 4. -/
  result : Result
  /-- The effect events of the latest command, in order (R9, R61); no command reads them: DESIGN CHOICE, log entry 4. -/
  events : List Event
  deriving DecidableEq, Repr

/-- The parameter record of a state. -/
@[reducible] def State.par (s : State) : Params := s.config.params

/-- Why a step stops.  The block itself raises no exception (R170). -/
inductive Fault where
  /-- Raised by the ROM read of `SEQ_UPDATE` (and of the guard through it) at an address outside
  [0, ROM_SIZE - 1], which does not exist (R50; DEDUCED, log entry 10).  Safe: it is a stop, and no state reached from reset
  takes it (R116). -/
  | romAddress (address : Nat)
  deriving DecidableEq, Repr

/-- Why the model gives an instruction no meaning. -/
inductive Refusal where
  /-- Raised by an arm of `exec` for an instruction without a meaning yet.  Safe: it is a stop.  No arm raises it. -/
  | notModelled (mnemonic : String)
  deriving DecidableEq, Repr

/-- What a step answers. -/
abbrev StepOutcome := Host.Outcome State Fault Refusal

/-- The inputs a run starts with: `tick = 0`, the button inactive, comparator, configuration mode and charging 0 (R78), and
the command word of `NOP`.  The spec gives inputs no reset value (R196): DESIGN CHOICE, log entry 2. -/
def Inputs.initial (c : Config) : Inputs :=
  { cmd := 0, tick := 0, rawLevel := !c.params.swActiveLevel, cmpTripped := false, configMode := .fullBell,
    charging := false }

/-- The state right after power-on reset under a given configuration (R195, R196): no result, no event (R197). -/
def State.resetWith (c : Config) : State where
  dsc := { count := c.params.debSeed, status := false, lastTick := 0 }
  tse := { pattern := .hornSteady, index := 0, remaining := 0, lastTick := 0, active := false }
  out := { tone := ⟨0, 0⟩, hornOut := false, indRed := false, cmpSel := .critical }
  lvg :=
    { state := .init, guardTimer := 0, commitTimer := 0, lvCount := 0, lvSticky := false, selPattern := .chargeChime,
      lastTick := 0 }
  config := c
  pins := Inputs.initial c
  upcoming := []
  result := Result.zero
  events := []

/-- The machine right after reset, with any accepted configuration whatever (R196). -/
def State.reset : State := State.resetWith Config.platform

end Sys2Proof.Machine
end

