-- ==== Sys2Proof/Machine/Operands.lean ====
section
/-! DEFINITION. What a command reads besides its own registers: the sampled inputs, the enumerated register values and the
step words of the ROM (spec/10_state.md rule R26; spec/20_memory.md rules R52, R53; spec/30_encoding.md rules R68, R75,
R76). -/

namespace Sys2Proof

/-- The 3-bit id of a pattern (R68). -/
def PatternId.toBits : PatternId → BitVec 3
  | .hornSteady => 0
  | .bellDecay => 1
  | .chargeChime => 2
  | .lowBattChime => 3
  | .miniHonk => 4

/-- The pattern an id names; 5, 6 and 7 are reserved (R68, R73). -/
def PatternId.ofBits (b : BitVec 3) : Option PatternId :=
  match b.toNat with
  | 0 => some .hornSteady
  | 1 => some .bellDecay
  | 2 => some .chargeChime
  | 3 => some .lowBattChime
  | 4 => some .miniHonk
  | _ => none

end Sys2Proof

namespace Sys2Proof.Machine

/-- The 3-bit value of `lvg_state` (R75). -/
def GuardState.toBits : GuardState → BitVec 3
  | .init => 0
  | .kill => 1
  | .checkBell => 2
  | .checkHornIdle => 3
  | .checkHornActive => 4
  | .endBeep => 5
  | .dead => 6
  | .reserved => 7

/-- The value of `cmp_sel` (R76). -/
def CmpLevel.toBits : CmpLevel → BitVec 1
  | .critical => 0
  | .lowBatt => 1

/-- The value of `config_mode` (R76). -/
def ConfigMode.toBits : ConfigMode → BitVec 1
  | .fullBell => 0
  | .abbreviatedHonk => 1

/-- `ReleasePattern(m)`: the pattern a honk ends with (R68). -/
def releasePattern : ConfigMode → PatternId
  | .fullBell => .bellDecay
  | .abbreviatedHonk => .miniHonk

/-- `in.tick`: the `TICK_W` bits of the tick count the pins carry (R26, R8).  DEDUCED, log entry 9. -/
def State.tickIn (s : State) : Nat := s.pins.tick % 2 ^ s.par.tickW

/-- `active`: the button level, polarity normalised (R90). -/
def State.switchActive (s : State) : Bool := s.pins.rawLevel == s.par.swActiveLevel

/-- `RomRead(a)`: the step word at address `a`, a pure function of the address and the ROM (R52).  An address outside the
ROM does not exist (R50). -/
def romRead (p : Params) (a : Nat) : Except Fault StepWord :=
  match p.patternRom[a]? with
  | some w => .ok w
  | none => .error (.romAddress a)

/-- The address of step `i` of pattern `id` (R53). -/
def stepAddress (p : Params) (id : PatternId) (i : Nat) : Nat := p.patternBase.get id + i

/-- Every pattern of an accepted configuration starts inside the ROM (R6). -/
theorem stepAddress_zero_lt (c : Config) (id : PatternId) :
    stepAddress c.params id 0 < c.params.patternRom.length := by
  simpa [stepAddress] using c.patternBase_lt id

/-- `RomRead(PATTERN_BASE[id] + 0)`: step 0 of a pattern, which every accepted configuration has (R6, R53). -/
def stepZero (c : Config) (id : PatternId) : StepWord :=
  c.params.patternRom[stepAddress c.params id 0]'(stepAddress_zero_lt c id)

/-- The DAC code of the comparator level in force (R76, R179); outside the block it sets the reference voltage. -/
def State.dacCode (s : State) : Nat :=
  match s.out.cmpSel with
  | .critical => s.par.dacCritical
  | .lowBatt => s.par.dacLowBatt

/-- The output pins: the five output registers under their own names, and the three status outputs (R27). -/
structure OutputPins where
  tonePeriod : Nat
  toneCompare : Nat
  hornOut : Bool
  indRed : Bool
  cmpSel : BitVec 1
  swStatus : Bool
  seqActive : Bool
  lvgState : BitVec 3
  deriving DecidableEq, Repr

/-- What the pins show, continuously (R24, R27). -/
def State.outputPins (s : State) : OutputPins where
  tonePeriod := s.out.tone.period
  toneCompare := s.out.tone.compare
  hornOut := s.out.hornOut
  indRed := s.out.indRed
  cmpSel := s.out.cmpSel.toBits
  swStatus := s.dsc.status
  seqActive := s.tse.active
  lvgState := s.lvg.state.toBits

end Sys2Proof.Machine
end

