-- ==== Sys2Proof/Machine/Flags.lean ====
section
/-! DEFINITION. The conditions that set and clear the three flags `sw_status`, `seq_active` and `lv_sticky`, and the
operations that write them (spec/10_state.md rule R30).  There are no condition codes. -/

namespace Sys2Proof.Machine

/-- A count that has just gone up latches a press when it equals `DEB_PRESS` (R91, D5). -/
def pressReached (p : Params) (count : Nat) : Bool := count == p.debPress

/-- A count that has just gone down latches a release when it equals `DEB_MAX - DEB_RELEASE` (R91, D5). -/
def releaseReached (p : Params) (count : Nat) : Bool := count == p.debMax - p.debRelease

/-- Low voltage is confirmed when the detection counter, just incremented, is at least `LV_CONFIRM` (R138, D29). -/
def lowVoltageConfirmed (p : Params) (count : Nat) : Bool := decide (p.lvConfirm ≤ count)

/-- `sw_status <- b`. -/
def State.setSwStatus (b : Bool) (s : State) : State := { s with dsc := { s.dsc with status := b } }

/-- `seq_active <- b`. -/
def State.setSeqActive (b : Bool) (s : State) : State := { s with tse := { s.tse with active := b } }

/-- `lv_sticky <- b`. -/
def State.setLvSticky (b : Bool) (s : State) : State := { s with lvg := { s.lvg with lvSticky := b } }

end Sys2Proof.Machine
end

