-- ==== Sys2Proof/Machine/Ops.lean ====
section
/-! DEFINITION. The operations the commands share: saturating steps (spec/00_scope.md rule R7), the effect helpers of its
section 6 (rule R9), the frame of a command (rules R27, R162, R163) and the one transition that stands in place of a trap
(spec/60_exceptions.md rule R174).

The block raises no exception, takes no interrupt and has no mode (R170, R172, R176), so there is no exception entry and no
return from one.  `enterDead` is what stands in the place of the entry; nothing leaves DEAD (R175). -/

namespace Sys2Proof.Machine

/-- `sat_inc(v, hi)` (R7). -/
def satInc (v hi : Nat) : Nat := if v < hi then v + 1 else v

/-- `sat_dec(v)` (R7). -/
def satDec (v : Nat) : Nat := if 0 < v then v - 1 else 0

/-- `clamp(v, lo, hi)` (spec/00_scope.md section 5). -/
def clamp (v lo hi : Nat) : Nat := min (max v lo) hi

/-- `emit E` (R9). -/
def State.emit (e : Event) (s : State) : State := { s with events := s.events ++ [e] }

/-- `ProgramTone(p, c)`: write the tone registers and emit the event. -/
def State.programTone (t : Tone) (s : State) : State :=
  ({ s with out := { s.out with tone := t } } : State).emit (.programTone t)

/-- `SetHorn(b)`. -/
def State.setHorn (b : Bool) (s : State) : State :=
  ({ s with out := { s.out with hornOut := b } } : State).emit (.setHorn b)

/-- `SetRed()`. -/
def State.setRed (s : State) : State :=
  ({ s with out := { s.out with indRed := true } } : State).emit (.setIndicator .red true)

/-- `SetCmp(sel)`. -/
def State.setCmp (sel : CmpLevel) (s : State) : State :=
  ({ s with out := { s.out with cmpSel := sel } } : State).emit (.setCmpThreshold sel)

/-- `HornOff()`: the direct line low, then the tone compare 0 with the period kept (R133). -/
def State.hornOff (s : State) : State :=
  let s := s.setHorn false
  s.programTone ⟨s.out.tone.period, 0⟩

/-- Every command starts with the zero result and an empty effect trace (R9, R27). -/
def State.begin (s : State) : State := { s with result := Result.zero, events := [] }

/-- A reserved command: no register changes, no event, the zero result and `cmd_err = 1` (R163). -/
def State.reservedCommand (s : State) : State :=
  { s.begin with result := { Result.zero with cmdErr := true } }

/-- `res_bool <- b` (R77). -/
def State.setResBool (b : Bool) (s : State) : State := { s with result := { s.result with resBool := b } }

/-- `(res_period, res_compare) <- t` (R77, R100). -/
def State.setResTone (t : Tone) (s : State) : State :=
  { s with result := { s.result with resPeriod := t.period, resCompare := t.compare } }

/-- `guard_timer <- v`: arm the timer (R131). -/
def State.armGuardTimer (v : Nat) (s : State) : State := { s with lvg := { s.lvg with guardTimer := v } }

/-- `commit_timer <- v`: arm the timer (R131). -/
def State.armCommitTimer (v : Nat) (s : State) : State := { s with lvg := { s.lvg with commitTimer := v } }

/-- `guard_timer <- sat_dec(guard_timer)` (R131). -/
def State.countGuardTimer (s : State) : State := s.armGuardTimer (satDec s.lvg.guardTimer)

/-- `commit_timer <- sat_dec(commit_timer)` (R131). -/
def State.countCommitTimer (s : State) : State := s.armCommitTimer (satDec s.lvg.commitTimer)

/-- `sel_pattern <- p`. -/
def State.selectPattern (p : PatternId) (s : State) : State := { s with lvg := { s.lvg with selPattern := p } }

/-- `lvg_state <- g`. -/
def State.goTo (g : GuardState) (s : State) : State := { s with lvg := { s.lvg with state := g } }

/-- `lv_count <- v`. -/
def State.setLvCount (v : Nat) (s : State) : State := { s with lvg := { s.lvg with lvCount := v } }

/-- The transition KILL → DEAD, the nearest thing to a trap: it saves nothing, masks nothing and writes only
`lvg_state` (R174). -/
def State.enterDead (s : State) : State := s.goTo .dead

/-- The command on the pins: the instruction, or the reserved encoding it is (R70, R73). -/
def State.fetchCommand (s : State) : Except DecodeError Instr := decodeCommand s.pins.cmd

/-- Between two commands the host puts the next inputs on the pins; inputs it does not change keep their values (R26, R78,
R162). -/
def State.presentNext (s : State) : State :=
  match s.upcoming with
  | [] => s
  | i :: rest => { s with pins := i, upcoming := rest }

/-- What follows a command that completed: the next inputs are presented. -/
def afterCommand : StepOutcome → StepOutcome
  | .next s => .next s.presentNext
  | .fault f => .fault f
  | .refused r => .refused r

/-- The outcome of a command whose ROM reads may leave the ROM. -/
def outcomeOf : Except Fault State → StepOutcome
  | .ok s => .next s
  | .error f => .fault f

end Sys2Proof.Machine
end

