-- ==== Sys2Proof/Machine/Debounce.lean ====
section
/-! DEFINITION. The DSC: `SW_UPDATE`, `SW_GET`, `SW_CLEAR` (spec/40_debounce.md). -/

namespace Sys2Proof.Machine

/-- `sw_count <- v`. -/
def State.setSwCount (v : Nat) (s : State) : State := { s with dsc := { s.dsc with count := v } }

/-- `sw_last_tick <- in.tick`. -/
def State.takeSwTick (s : State) : State := { s with dsc := { s.dsc with lastTick := s.tickIn } }

/-- An active sample: the counter goes up below the ceiling; a count that reaches `DEB_PRESS` latches the press and jumps to
the ceiling (R91). -/
def State.swActiveSample (s : State) : State :=
  if s.dsc.count < s.par.debMax then
    if pressReached s.par (s.dsc.count + 1) then (s.setSwStatus true).setSwCount s.par.debMax
    else s.setSwCount (s.dsc.count + 1)
  else s

/-- An inactive sample: the counter goes down above the floor; a count that reaches `DEB_MAX - DEB_RELEASE` latches the
release and drops to the floor (R91). -/
def State.swInactiveSample (s : State) : State :=
  if 0 < s.dsc.count then
    if releaseReached s.par (s.dsc.count - 1) then (s.setSwStatus false).setSwCount 0
    else s.setSwCount (s.dsc.count - 1)
  else s

/-- The Debounced Switch's `update()` (R91): nothing at all when no tick has elapsed (R8). -/
def State.swUpdate (s : State) : State :=
  if s.tickIn = s.dsc.lastTick then s
  else if s.switchActive then s.takeSwTick.swActiveSample
  else s.takeSwTick.swInactiveSample

/-- The Debounced Switch's `clear_status()`: the status alone; the counter stays (R93, D8). -/
def State.swClear (s : State) : State := s.setSwStatus false

/-- `SW_UPDATE` (R91). -/
def execSwUpdate (s : State) : StepOutcome := .next s.begin.swUpdate

/-- `SW_GET`: the latch, not gated by the tick (R92). -/
def execSwGet (s : State) : StepOutcome := .next (s.begin.setResBool s.dsc.status)

/-- `SW_CLEAR` (R93). -/
def execSwClear (s : State) : StepOutcome := .next s.begin.swClear

end Sys2Proof.Machine
end

