-- ==== Sys2Proof/Machine/Pwm.lean ====
section
/-! DEFINITION. The PDC: the function `PwmCalc` and the command `PWM_CALC` (spec/41_pwm_calc.md). -/

namespace Sys2Proof.Machine

/-- The period of a clamped frequency: two divisions rounding down, left to right, a minus one that saturates at 0, and the
cap `PERIOD_MAX` (R102). -/
def pwmPeriod (p : Params) (f : Nat) : Nat :=
  let q := p.clockHz / p.prescaler / f
  min (if 1 ≤ q then q - 1 else 0) p.periodMax

/-- The compare value of a clamped duty: an exact product, divided rounding down; a duty of 100 is the period itself (R103). -/
def pwmCompare (period d : Nat) : Nat := if d = 100 then period else period * d / 100

/-- `PwmCalc(freq, duty)` (R100): clamp both (R101), then period and compare. -/
def pwmCalc (p : Params) (freq : BitVec 16) (duty : BitVec 8) : Tone :=
  let f := clamp freq.toNat p.minFreq p.maxFreq
  let d := min duty.toNat 100
  let period := pwmPeriod p f
  ⟨period, pwmCompare period d⟩

/-- `PWM_CALC freq, duty`: the two numbers are results; nothing is programmed (R100). -/
def execPwmCalc (freq : BitVec 16) (duty : BitVec 8) (s : State) : StepOutcome :=
  .next (s.begin.setResTone (pwmCalc s.par freq duty))

end Sys2Proof.Machine
end

