-- ==== Sys2Proof/Machine/Tone.lean ====
section
/-! DEFINITION. The TSE: `SEQ_START`, `SEQ_UPDATE`, `SEQ_ABORT` and the step words `STEP` and `END`
(spec/42_tone_sequencer.md). -/

namespace Sys2Proof.Machine

/-- Entering a `STEP` word: its tone is programmed and its duration loaded (R113). -/
def State.enterStep (duration freq : BitVec 16) (duty : BitVec 8) (s : State) : State :=
  let s := s.programTone (pwmCalc s.par freq duty)
  { s with tse := { s.tse with remaining := duration.toNat } }

/-- Reaching an `END` word: the sequencer is idle (R114). -/
def State.reachEnd (s : State) : State := s.setSeqActive false

/-- The registers a start writes before it looks at the form of step 0 (R111): `seq_active` is 1 unless step 0 turns out to
be the sentinel. -/
def State.startPattern (p : PatternId) (duration : BitVec 16) (s : State) : State :=
  { s with
    tse := { pattern := p, index := 0, remaining := duration.toNat, lastTick := s.tickIn, active := true } }

/-- `seq_last_tick <- in.tick`. -/
def State.takeSeqTick (s : State) : State := { s with tse := { s.tse with lastTick := s.tickIn } }

/-- `seq_index <- seq_index + 1`. -/
def State.advanceIndex (s : State) : State := { s with tse := { s.tse with index := s.tse.index + 1 } }

/-- `seq_remaining <- seq_remaining - 1`. -/
def State.countStep (s : State) : State := { s with tse := { s.tse with remaining := s.tse.remaining - 1 } }

/-- `SeqStart(p)` (R111): step 0 is read; a `STEP` is entered, an `END` leaves the sequencer idle. -/
def State.seqStart (p : PatternId) (s : State) : State :=
  let w := stepZero s.config p
  let s := s.startPattern p (stepDuration w)
  if stepDuration w = 0#16 then s.reachEnd else s.enterStep (stepDuration w) (stepFreq w) (stepDuty w)

/-- `SeqUpdate()` (R112): `still_playing` and the new state. -/
def seqUpdate (s : State) : Except Fault (Bool × State) :=
  if s.tickIn = s.tse.lastTick then .ok (s.tse.active, s)
  else if s.tse.active = false then .ok (false, s.takeSeqTick)
  else if 0 < s.tse.remaining then .ok (true, s.takeSeqTick.countStep)
  else
    match romRead s.par (stepAddress s.par s.tse.pattern (s.tse.index + 1)) with
    | .error f => .error f
    | .ok w =>
      if stepDuration w = 0#16 then .ok (false, s.takeSeqTick.reachEnd)
      else .ok (true, s.takeSeqTick.advanceIndex.enterStep (stepDuration w) (stepFreq w) (stepDuty w))

/-- `SeqAbort()`: the playback is marked idle and nothing else is written (R115). -/
def State.seqAbort (s : State) : State := s.setSeqActive false

/-- `SEQ_START pat`; `pat` 5 to 7 is a reserved command (R111, R163). -/
def execSeqStart (pat : BitVec 3) (s : State) : StepOutcome :=
  match PatternId.ofBits pat with
  | some p => .next (s.begin.seqStart p)
  | none => .next s.reservedCommand

/-- `SEQ_UPDATE`: the returned `still_playing` is `res_bool` (R112). -/
def execSeqUpdate (s : State) : StepOutcome :=
  outcomeOf ((seqUpdate s.begin).map fun r => r.2.setResBool r.1)

/-- `SEQ_ABORT` (R115). -/
def execSeqAbort (s : State) : StepOutcome := .next s.begin.seqAbort

/-- `STEP duration, frequency, duty`: what the word does when the sequencer enters it (R113).  A word of duration 0 is an
`END` (R67).  DESIGN CHOICE, log entry 6: run alone it gives the zero result. -/
def execStepWord (duration freq : BitVec 16) (duty : BitVec 8) (s : State) : StepOutcome :=
  .next (if duration = 0#16 then s.begin.reachEnd else s.begin.enterStep duration freq duty)

/-- `END`: what the word does when the sequencer reads it (R114).  DESIGN CHOICE, log entry 6: run alone it gives the zero
result. -/
def execEndWord (s : State) : StepOutcome := .next s.begin.reachEnd

end Sys2Proof.Machine
end

