-- ==== Sys2Proof/Machine/Guard.lean ====
section
/-! DEFINITION. The LVG: `LVG_UPDATE` and its state handlers (spec/43_lv_guard.md).  `sw` is the debounced status, sampled
once at the start of the update (R130). -/

namespace Sys2Proof.Machine

/-- `EnterActive()`: the way into CHECK_HORN_ACTIVE on a press (R132). -/
def State.enterActive (s : State) : State :=
  (((s.armGuardTimer s.par.tMaxHonk).armCommitTimer s.par.tCommit).selectPattern
    (releasePattern s.pins.configMode)).goTo .checkHornActive

/-- State INIT (R134). -/
def guardInit (sw : Bool) (s : State) : State :=
  let s := s.setCmp .critical
  let s := ((s.armGuardTimer s.par.tKill).setLvCount 0).setLvSticky false
  let s := s.armCommitTimer s.par.tCommitInit
  (s.selectPattern (if sw then releasePattern s.pins.configMode else .chargeChime)).goTo .kill

/-- State KILL: the comparator is tested first, and an update that goes to DEAD counts no timer (R135). -/
def guardKill (s : State) : State :=
  if s.pins.cmpTripped then s.enterDead
  else
    let s := s.countGuardTimer
    if s.lvg.guardTimer = 0 then ((s.setCmp .lowBatt).armGuardTimer s.par.tMaxHonk).goTo .checkHornActive else s

/-- State CHECK_BELL: the sequencer first; the switch only while it plays (R136). -/
def guardCheckBell (sw : Bool) (s : State) : Except Fault State :=
  match seqUpdate s with
  | .error f => .error f
  | .ok (true, s) => .ok (if sw then s.seqAbort.enterActive else s)
  | .ok (false, s) =>
    if s.lvg.lvSticky then .ok ((s.seqStart .lowBattChime).goTo .endBeep)
    else .ok ((s.armGuardTimer s.par.tRebeepWait).goTo .checkHornIdle)

/-- State CHECK_HORN_IDLE: horn off first and always (R137). -/
def guardCheckHornIdle (sw : Bool) (s : State) : State :=
  let s := s.hornOff
  if sw then s.enterActive
  else
    let s := s.countGuardTimer
    if s.lvg.guardTimer = 0 ∧ s.lvg.lvSticky = true then (s.seqStart .lowBattChime).goTo .endBeep
    else s

/-- The comparator part of a held tick: a leaky integrator and the sticky flag (R138, R148). -/
def State.integrateComparator (s : State) : State :=
  if s.pins.cmpTripped then
    let s := s.setLvCount (satInc s.lvg.lvCount s.par.lvCountMax)
    if lowVoltageConfirmed s.par s.lvg.lvCount then s.setLvSticky true else s
  else s.setLvCount (satDec s.lvg.lvCount)

/-- The commit timer part of a held tick: the horn is driven from the tick in which the timer elapses (R138). -/
def State.commitTick (s : State) : State :=
  let s := s.countCommitTimer
  if s.lvg.commitTimer = 0 then s.setHorn true else s

/-- The max-honk part of a held tick: the press is cleared when the timer elapses (R138). -/
def State.maxHonkTick (s : State) : State :=
  let s := s.countGuardTimer
  if s.lvg.guardTimer = 0 then s.swClear else s

/-- A held tick of CHECK_HORN_ACTIVE: its four parts in the order of the effect trace (R138, D44). -/
def guardHeldTick (s : State) : State :=
  (s.selectPattern (releasePattern s.pins.configMode)).commitTick.integrateComparator.maxHonkTick

/-- State CHECK_HORN_ACTIVE (R138). -/
def guardCheckHornActive (sw : Bool) (s : State) : State :=
  if sw then guardHeldTick s
  else ((s.setHorn false).seqStart s.lvg.selPattern).goTo .checkBell

/-- State DEAD: the red indicator and nothing else (R140). -/
def guardDead (s : State) : State := s.setRed

/-- The last line of END_BEEP's handler: DEAD's action, where the parameter says so; the state is not changed (R139). -/
def State.endBeepFallthrough (s : State) : State :=
  if s.par.endBeepFallsIntoDead then s.setRed else s

/-- State END_BEEP: the switch first; the sequencer only while it is not pressed (R139). -/
def guardEndBeep (sw : Bool) (s : State) : Except Fault State :=
  if sw then .ok s.seqAbort.enterActive.endBeepFallthrough
  else
    match seqUpdate s with
    | .error f => .error f
    | .ok (true, s) => .ok s.endBeepFallthrough
    | .ok (false, s) => .ok (s.hornOff.armGuardTimer 0).endBeepFallthrough

/-- `lvg_last_tick <- in.tick`. -/
def State.takeGuardTick (s : State) : State := { s with lvg := { s.lvg with lastTick := s.tickIn } }

/-- The handler of the guard's present state: exactly one runs (R130); the reserved value 7 acts as DEAD (R141). -/
def guardHandler (sw : Bool) (s : State) : Except Fault State :=
  match s.lvg.state with
  | .init => .ok (guardInit sw s)
  | .kill => .ok (guardKill s)
  | .checkBell => guardCheckBell sw s
  | .checkHornIdle => .ok (guardCheckHornIdle sw s)
  | .checkHornActive => .ok (guardCheckHornActive sw s)
  | .endBeep => guardEndBeep sw s
  | .dead => .ok (guardDead s)
  | .reserved => .ok (guardDead s)

/-- The Low-Voltage Guard's `update()` (R130): nothing at all when no tick has elapsed. -/
def lvgUpdate (s : State) : Except Fault State :=
  if s.tickIn = s.lvg.lastTick then .ok s else guardHandler s.dsc.status s.takeGuardTick

/-- `LVG_UPDATE` (R130). -/
def execLvgUpdate (s : State) : StepOutcome := outcomeOf (lvgUpdate s.begin)

end Sys2Proof.Machine
end

