-- ==== Sys2Proof/Machine/Top.lean ====
section
/-! DEFINITION. The commands of no one sub-block: `NOP` and `POLL` (spec/44_top_commands.md). -/

namespace Sys2Proof.Machine

/-- `NOP`: no register, no event, the zero result (R160). -/
def execNop (s : State) : StepOutcome := .next s.begin

/-- One iteration of the outer loop: the switch update, then the guard unless charging (R161, R165). -/
def poll (s : State) : Except Fault State :=
  let s := s.swUpdate
  if s.pins.charging then .ok s else lvgUpdate s

/-- `POLL` (R161). -/
def execPoll (s : State) : StepOutcome := outcomeOf (poll s.begin)

end Sys2Proof.Machine
end

