-- ==== Sys2Proof/Machine/Dispatch.lean ====
section
/-! DEFINITION. One arm for each constructor of Instr. -/

namespace Sys2Proof.Machine

def exec (i : Instr) (s : State) : Host.Outcome State Fault Refusal :=
  match i with
  | .nop => Sys2Proof.Machine.execNop s
  | .poll => Sys2Proof.Machine.execPoll s
  | .swUpdate => Sys2Proof.Machine.execSwUpdate s
  | .swGet => Sys2Proof.Machine.execSwGet s
  | .swClear => Sys2Proof.Machine.execSwClear s
  | .seqStart pat => Sys2Proof.Machine.execSeqStart pat s
  | .seqUpdate => Sys2Proof.Machine.execSeqUpdate s
  | .seqAbort => Sys2Proof.Machine.execSeqAbort s
  | .pwmCalc freq duty => Sys2Proof.Machine.execPwmCalc freq duty s
  | .lvgUpdate => Sys2Proof.Machine.execLvgUpdate s
  | .stepWord duration freq duty => Sys2Proof.Machine.execStepWord duration freq duty s
  | .endWord => Sys2Proof.Machine.execEndWord s

end Sys2Proof.Machine
end

