-- ==== Sys2Proof/Machine/Fetch.lean ====
section
/-! DEFINITION. How an instruction word is placed where the next step runs it: a command word on the input `cmd`
(spec/30_encoding.md rule R70), a step word in the pattern ROM (spec/20_memory.md rule R50). -/

namespace Sys2Proof

/-- A record whose ROM holds one step word and the canonical `END`, with every pattern starting at the word.  `IDX_W` is
raised to 1 where it is 0, since a pattern of one step needs it (R6). -/
def Params.singleWordRom (p : Params) (w : StepWord) : Params :=
  { p with patternRom := [w, 0], patternBase := ⟨0, 0, 0, 0, 0⟩, idxW := max 1 p.idxW }

theorem Params.singleWordRom_patternOk (p : Params) (w : StepWord) (id : PatternId) :
    (p.singleWordRom w).patternOk id = true := by
  have hbase : (p.singleWordRom w).patternBase.get id = 0 := by cases id <;> rfl
  have hpow : 1 < 2 ^ max 1 p.idxW := Nat.one_lt_two_pow (by omega)
  have hlen : firstEnd [w, 0] = some (if stepDuration w = 0#16 then 0 else 1) := by
    have hzero : stepDuration 0 = 0#16 := by decide
    by_cases hw : stepDuration w = 0#16 <;> simp only [firstEnd, hw, hzero, if_true, if_false, Option.map_some]
  unfold Params.patternOk Params.patternLength
  rw [hbase]
  show (match firstEnd [w, 0] with | some n => decide (n < 2 ^ max 1 p.idxW) | none => false) = true
  rw [hlen]
  by_cases hw : stepDuration w = 0#16 <;> simp [hw, hpow]

theorem Params.singleWordRom_ok (p : Params) (w : StepWord) (h : p.ok = true) :
    (p.singleWordRom w).ok = true := by
  have hrom : (p.singleWordRom w).romOk = true := by
    simp [romOk, singleWordRom_patternOk]
  simp only [ok, Bool.and_eq_true] at h ⊢
  exact ⟨⟨⟨h.1.1.1, h.1.1.2⟩, h.1.2⟩, hrom⟩

/-- The accepted configuration that differs only in the ROM holding the one step word. -/
def Config.singleWordRom (c : Config) (w : StepWord) : Config :=
  ⟨c.params.singleWordRom w, c.params.singleWordRom_ok w c.ok⟩

end Sys2Proof

namespace Sys2Proof.Machine

/-- The state with a command word on the input `cmd`. -/
def State.withCommand (s : State) (w : CommandWord) : State := { s with pins := { s.pins with cmd := w } }

/-- The state with a step word at the ROM address where every pattern starts, and `SEQ_START 0` on the input `cmd`: the
next command makes the sequencer read and run the word. -/
def State.withRomWord (s : State) (w : StepWord) : State :=
  { s.withCommand 0x50000000 with config := s.config.singleWordRom w }

end Sys2Proof.Machine
end

