-- ==== Sys2Proof/Machine/Step.lean ====
section
/-! DEFINITION. One step of the machine is one command, run to completion (spec/00_scope.md rule R1,
spec/44_top_commands.md rule R162). -/

namespace Sys2Proof.Machine

/-- The command on the pins runs on the inputs sampled with it; a reserved command is the defined no-op with `cmd_err = 1`
(R163; DEDUCED, log entry 8).  Then the host presents the next inputs (log entry 3). -/
def step (s : State) : Host.Outcome State Fault Refusal :=
  match s.fetchCommand with
  | .ok i => afterCommand (exec i s)
  | .error _ => .next s.reservedCommand.presentNext

/-- The state whose next step runs the instruction with the bits `w`: a command word of 32 bits goes on the input `cmd`, a
step word of 40 bits into the ROM under a `SEQ_START`; no instruction has another length. -/
def State.withFetchWord (s : State) (nbits w : Nat) : State :=
  if nbits = 32 then s.withCommand (BitVec.ofNat 32 w)
  else if nbits = 40 then s.withRomWord (BitVec.ofNat 40 w)
  else s

end Sys2Proof.Machine
end

