-- ==== Sys2Proof/Machine/Program.lean ====
section
/-! DEFINITION. The program notation of spec/30_encoding.md rules R78 to R80 as abstract syntax: what a line contributes to
the sequence of inputs a host presents, and what a pattern table contributes to the ROM. -/

namespace Sys2Proof.Machine

/-- A `.in` directive: any subset of the inputs but `cmd` (R78). -/
structure InputChange where
  tick : Option Nat := none
  raw : Option Bool := none
  cmp : Option Bool := none
  cfg : Option ConfigMode := none
  chg : Option Bool := none
  deriving DecidableEq, Repr

/-- One line of a program (R78, R79). -/
inductive Line where
  /-- `.in …`. -/
  | setInputs (change : InputChange)
  /-- `.tick +n`. -/
  | advanceTick (n : Nat)
  /-- `.word w`. -/
  | rawWord (w : CommandWord)
  /-- A command in its canonical encoding. -/
  | command (i : Instr)
  /-- `TPOLL n` with its optional input changes. -/
  | tpoll (n : Nat) (change : InputChange)
  deriving DecidableEq, Repr

/-- A pattern table: `.pattern id @base` and its lines (R80). -/
structure PatternSource where
  id : PatternId
  base : Nat
  lines : List Instr
  deriving DecidableEq, Repr

/-- Why a program or a pattern table is refused. -/
inductive ProgramError where
  /-- A command word is reserved: "a model refuses a program that does" (R73, R163; V1, V2). -/
  | reservedCommand (e : DecodeError)
  /-- A `STEP` or `END` stands among the commands, or a command among the lines of a pattern. -/
  | wrongKind (i : Instr)
  deriving DecidableEq, Repr

/-- The inputs after a `.in`: each holds until changed (R78). -/
def InputChange.apply (d : InputChange) (i : Inputs) : Inputs :=
  { i with
    tick := d.tick.getD i.tick
    rawLevel := d.raw.getD i.rawLevel
    cmpTripped := d.cmp.getD i.cmpTripped
    configMode := d.cfg.getD i.configMode
    charging := d.chg.getD i.charging }

/-- `.tick +n`: `tick <- (tick + n) mod 2^TICK_W` (R78). -/
def Inputs.advanceTick (p : Params) (n : Nat) (i : Inputs) : Inputs := { i with tick := (i.tick + n) % 2 ^ p.tickW }

/-- The word `POLL` assembles to. -/
def pollWord : CommandWord := encodeOp 1

/-- `n` times: `.tick +1` then `POLL` (R79). -/
def tpollInputs (p : Params) : Nat → Inputs → Inputs × List Inputs
  | 0, i => (i, [])
  | n + 1, i =>
    let i := { i.advanceTick p 1 with cmd := pollWord }
    let (last, rest) := tpollInputs p n i
    (last, i :: rest)

/-- What one line does to the inputs in force, and the commands it presents. -/
def Line.inputs (p : Params) (i : Inputs) : Line → Except ProgramError (Inputs × List Inputs)
  | .setInputs d => .ok (d.apply i, [])
  | .advanceTick n => .ok (i.advanceTick p n, [])
  | .rawWord w => .ok (i, [{ i with cmd := w }])
  | .command c =>
    match encode c with
    | .command w => .ok (i, [{ i with cmd := w }])
    | .romWord _ => .error (.wrongKind c)
  | .tpoll n d => .ok (tpollInputs p n (d.apply i))

/-- The inputs of the commands of a program, in order, from the inputs in force. -/
def assembleFrom (p : Params) : Inputs → List Line → Except ProgramError (List Inputs)
  | _, [] => .ok []
  | i, line :: rest =>
    match line.inputs p i with
    | .error e => .error e
    | .ok (i, now) => (assembleFrom p i rest).map (now ++ ·)

/-- The inputs of a whole program, which starts from the initial inputs of rule R78. -/
def assemble (c : Config) (lines : List Line) : Except ProgramError (List Inputs) :=
  assembleFrom c.params (Inputs.initial c) lines

/-- The reserved command among the inputs of a program, if there is one (R163). -/
def findReserved : List Inputs → Option DecodeError
  | [] => none
  | i :: rest =>
    match decodeCommand i.cmd with
    | .ok _ => findReserved rest
    | .error e => some e

/-- The reset state with a sequence of inputs presented to it: the first on the pins, the others to follow. -/
def State.loadInputs (c : Config) : List Inputs → State
  | [] => State.resetWith c
  | i :: rest => { State.resetWith c with pins := i, upcoming := rest }

/-- The reset state with a program loaded from outside; a program that holds a reserved command is refused (R163). -/
def loadProgram (c : Config) (lines : List Line) : Except ProgramError State :=
  match assemble c lines with
  | .error e => .error e
  | .ok ins =>
    match findReserved ins with
    | some e => .error (.reservedCommand e)
    | none => .ok (State.loadInputs c ins)

/-- The words of a pattern table (R80). -/
def patternWords : List Instr → Except ProgramError (List StepWord)
  | [] => .ok []
  | i :: rest =>
    match encode i with
    | .romWord w => (patternWords rest).map (w :: ·)
    | .command _ => .error (.wrongKind i)

/-- A ROM image with words written at consecutive addresses from a base.  An address that no table writes holds the
canonical `END`: DESIGN CHOICE, log entry 7.  An address that the image already has is overwritten, so that where two
tables put different words at one address the later table's word stands: DESIGN CHOICE, log entry 14. -/
def placeWords (rom : List StepWord) (base : Nat) (ws : List StepWord) : List StepWord :=
  (rom ++ List.replicate (base - rom.length) 0).take base ++ ws ++ rom.drop (base + ws.length)

/-- `PATTERN_BASE[id] <- a`. -/
def setPatternBase (b : PatternBases) (id : PatternId) (a : Nat) : PatternBases :=
  match id with
  | .hornSteady => { b with hornSteady := a }
  | .bellDecay => { b with bellDecay := a }
  | .chargeChime => { b with chargeChime := a }
  | .lowBattChime => { b with lowBattChime := a }
  | .miniHonk => { b with miniHonk := a }

/-- A parameter record with a pattern table put into its ROM (R80), over what stands there (log entry 14). -/
def placePattern (t : PatternSource) (p : Params) : Except ProgramError Params :=
  (patternWords t.lines).map fun ws =>
    { p with
      patternRom := placeWords p.patternRom t.base ws
      patternBase := setPatternBase p.patternBase t.id t.base }

end Sys2Proof.Machine
end

