-- ==== Sys2Proof/Safety.lean ====
section
/-! DEFINITION. What counts as a safe state and a safe run, in the terms the statements use. -/

namespace Sys2Proof

/-- The commands a host leaves to the guard while the guard runs (spec/44_top_commands.md rule R164, the TSE commands of
spec/43_lv_guard.md rule R146). -/
def Instr.drivesSequencer : Instr → Bool
  | .seqStart _ => true
  | .seqUpdate => true
  | .seqAbort => true
  | .stepWord _ _ _ => true
  | .endWord => true
  | .nop => false
  | .poll => false
  | .swUpdate => false
  | .swGet => false
  | .swClear => false
  | .pwmCalc _ _ => false
  | .lvgUpdate => false

end Sys2Proof

namespace Sys2Proof.Machine

/-- The ranges of the registers that a range bounds (spec/10_state.md rules R22 to R25, R35), but for the two timers, whose
range is `State.TimersFit`. -/
structure State.InRange (s : State) : Prop where
  swCount : s.dsc.count ≤ s.par.debMax
  lvCount : s.lvg.lvCount ≤ s.par.lvCountMax
  period : s.out.tone.period ≤ s.par.periodMax
  compare : s.out.tone.compare ≤ s.out.tone.period
  guardState : s.lvg.state ≠ .reserved
  remaining : s.tse.remaining ≤ 65535
  swTick : s.dsc.lastTick < 2 ^ s.par.tickW
  seqTick : s.tse.lastTick < 2 ^ s.par.tickW
  lvgTick : s.lvg.lastTick < 2 ^ s.par.tickW

/-- The sequencer stands inside its pattern: `seq_index` fits its width, and while the sequencer plays, the index is below
the place of the sentinel (spec/42_tone_sequencer.md rule R116). -/
def State.InPattern (s : State) : Prop :=
  s.tse.index < 2 ^ s.par.idxW ∧
    (s.tse.active = true → ∃ n, s.par.patternLength s.tse.pattern = some n ∧ s.tse.index < n)

/-- The invariant of the block: ranges and the sequencer's place.  Every command keeps it, whoever issues it. -/
structure State.Inv (s : State) : Prop where
  inRange : s.InRange
  inPattern : s.InPattern

/-- The two timers within the range [0, 65535] of spec/10_state.md rule R25. -/
def State.TimersFit (s : State) : Prop := s.lvg.guardTimer ≤ 65535 ∧ s.lvg.commitTimer ≤ 65535

/-- The mutual exclusion of the horn line and the sequencer (spec/43_lv_guard.md rule R146 (a), (b) and (d)); the clause
about INIT and KILL is what (d) rests on. -/
structure State.Exclusive (s : State) : Prop where
  hornOnlyActive : s.out.hornOut = true → s.lvg.state = .checkHornActive
  playsOnlyBellOrBeep : s.tse.active = true → s.lvg.state = .checkBell ∨ s.lvg.state = .endBeep
  quietBeforeAndDead :
    s.lvg.state = .init ∨ s.lvg.state = .kill ∨ s.lvg.state = .dead →
      s.out.hornOut = false ∧ s.tse.active = false ∧ s.out.tone = ⟨0, 0⟩

/-- Throughout CHECK_HORN_IDLE the sticky flag is 0 (spec/43_lv_guard.md rule R144). -/
def State.IdleNotSticky (s : State) : Prop := s.lvg.state = .checkHornIdle → s.lvg.lvSticky = false

/-- The rows of the transition table of spec/43_lv_guard.md rule R142 that change the state. -/
def GuardState.mayFollow : GuardState → GuardState → Bool
  | .init, .kill => true
  | .kill, .dead => true
  | .kill, .checkHornActive => true
  | .checkBell, .checkHornActive => true
  | .checkBell, .endBeep => true
  | .checkBell, .checkHornIdle => true
  | .checkHornIdle, .checkHornActive => true
  | .checkHornIdle, .endBeep => true
  | .checkHornActive, .checkBell => true
  | .endBeep, .checkHornActive => true
  | _, _ => false

/-- The register write that goes with an effect event (spec/00_scope.md rule R9). -/
def Event.applyTo (o : OutputRegs) : Event → OutputRegs
  | .setCmpThreshold sel => { o with cmpSel := sel }
  | .programTone t => { o with tone := t }
  | .setHorn b => { o with hornOut := b }
  | .setIndicator .red b => { o with indRed := b }

/-- The state with given inputs on its pins and none to follow. -/
def State.withPins (i : Inputs) (s : State) : State := { s with pins := i, upcoming := [] }

/-- A run: the host presents the inputs one after the other, one step for each (spec/44_top_commands.md rule R162). -/
def drive : List Inputs → State → StepOutcome
  | [], s => .next s
  | i :: rest, s =>
    match step (s.withPins i) with
    | .next t => drive rest t
    | .fault f => .fault f
    | .refused r => .refused r

/-- The tick a set of inputs shows the block (spec/10_state.md rule R26). -/
def Inputs.tickSeen (p : Params) (i : Inputs) : Nat := i.tick % 2 ^ p.tickW

/-- Every input of the list shows a tick that differs from the one before it, the first from `last`: each update issued
with it does work (spec/00_scope.md rule R8). -/
def FreshTicks (p : Params) : Nat → List Inputs → Prop
  | _, [] => True
  | last, i :: rest => i.tickSeen p ≠ last ∧ FreshTicks p (i.tickSeen p) rest

/-- Every input of the list carries the command `c`. -/
abbrev AllCommand (c : Instr) (ins : List Inputs) : Prop := ∀ i ∈ ins, decodeCommand i.cmd = .ok c

/-- Every input of the list carries the button level `active`, in the DSC's polarity (spec/40_debounce.md rule R90). -/
abbrev AllSamples (p : Params) (active : Bool) (ins : List Inputs) : Prop :=
  ∀ i ∈ ins, (i.rawLevel == p.swActiveLevel) = active

/-- The comparator readings of the list alternate, the first being `b`. -/
def Alternating : Bool → List Inputs → Prop
  | _, [] => True
  | b, i :: rest => i.cmpTripped = b ∧ Alternating (!b) rest

/-- How many working updates a list of step words plays: each step its duration and one more, up to the sentinel
(spec/42_tone_sequencer.md rule R117). -/
def playUpdates : List StepWord → Nat
  | [] => 0
  | w :: ws => if stepDuration w = 0#16 then 0 else (stepDuration w).toNat + 1 + playUpdates ws

/-- The state with another tick count on its pins. -/
def State.withTick (n : Nat) (s : State) : State := { s with pins := { s.pins with tick := n } }

/-- All three update gates are open: the tick on the pins differs from every last-tick register. -/
def State.TickFresh (s : State) : Prop :=
  s.tickIn ≠ s.dsc.lastTick ∧ s.tickIn ≠ s.tse.lastTick ∧ s.tickIn ≠ s.lvg.lastTick

/-- A state without what it remembers of the tick. -/
def State.forgetTicks (s : State) : State :=
  { s with
    dsc := { s.dsc with lastTick := 0 }
    tse := { s.tse with lastTick := 0 }
    lvg := { s.lvg with lastTick := 0 }
    pins := { s.pins with tick := 0 } }

/-- An outcome without what its state remembers of the tick. -/
def forgetOutcomeTicks : StepOutcome → StepOutcome
  | .next s => .next s.forgetTicks
  | .fault f => .fault f
  | .refused r => .refused r

end Sys2Proof.Machine
end

