-- ==== Sys2Proof/Certificates/Slice0/Obligations.lean ====
section
/-! DEFINITION. The statements for the provers, in the order of OBLIGATIONS.json. -/

open Sys2Proof Sys2Proof.Machine

/-! ## Encoding -/

/-- Decoding the canonical encoding of a well-formed instruction gives the instruction back: R66, R67, R70 to R72. -/
def Obligations.DecodeOfEncodeIsIdentity : Prop :=
  ∀ i : Instr, i.wf = true → decode (encode i) = .ok i

/-- What the decoder answers is always a well-formed instruction: R67, R73. -/
def Obligations.DecodedInstructionIsWellFormed : Prop :=
  ∀ (e : Encoded) (i : Instr), decode e = .ok i → i.wf = true

/-- Words the spec writes out decode to the instructions they stand for: the worked encodings of spec/30_encoding.md and
the words of spec/95_test_vectors.md section 6. -/
def Obligations.SpecWordsDecode : Prop :=
  decodeCommand 0x00000000 = .ok .nop ∧ decodeCommand 0x10000000 = .ok .poll ∧
  decodeCommand 0x20000000 = .ok .swUpdate ∧ decodeCommand 0x50000003 = .ok (.seqStart 3) ∧
  decodeCommand 0x8001B832 = .ok (.pwmCalc 440 50) ∧ decodeCommand 0x90000000 = .ok .lvgUpdate ∧
  decodeStepWord 0x000307D032 = .stepWord 3 2000 50 ∧ decodeStepWord 0x0001000A00 = .stepWord 1 10 0 ∧
  decodeStepWord 0x0000000000 = .endWord

/-- The fields of the two words stand at the bits of R66 and R71. -/
def Obligations.FieldsStandAtTheirBits : Prop :=
  (∀ w : StepWord, w.toNat = (stepDuration w).toNat * 2 ^ 24 + (stepFreq w).toNat * 2 ^ 8 + (stepDuty w).toNat) ∧
  (∀ w : CommandWord,
    (opField w).toNat = w.toNat / 2 ^ 28 ∧ (patField w).toNat = w.toNat % 2 ^ 3 ∧
    (freqField w).toNat = w.toNat / 2 ^ 8 % 2 ^ 16 ∧ (dutyField w).toNat = w.toNat % 2 ^ 8)

/-- Two command words that agree in `op` and in the operand bits of the command it selects decode alike: R72. -/
def Obligations.IgnoredBitsAreIgnored : Prop :=
  ∀ w v : CommandWord, opField w = opField v →
    (opField w = 5#4 → patField w = patField v) →
    (opField w = 8#4 → freqField w = freqField v ∧ dutyField w = dutyField v) →
    decodeCommand w = decodeCommand v

/-- The reserved command encodings are `op` 10 to 15, and `op` 5 with `pat` 5 to 7: R73. -/
def Obligations.ReservedEncodingsAreExactlyThese : Prop :=
  ∀ w : CommandWord, (∃ e, decodeCommand w = .error e) ↔
    10 ≤ (opField w).toNat ∨ ((opField w).toNat = 5 ∧ 5 ≤ (patField w).toNat)

/-- The form of a step word is decided by its duration alone, its fields are read unchanged, and the canonical `END` is the
all-zero word: R67, R69. -/
def Obligations.StepWordFormIsDecidedByDuration : Prop :=
  (∀ w : StepWord, stepDuration w = 0#16 → decodeStepWord w = .endWord) ∧
  (∀ w : StepWord, stepDuration w ≠ 0#16 →
    decodeStepWord w = .stepWord (stepDuration w) (stepFreq w) (stepDuty w)) ∧
  encode .endWord = .romWord 0

/-! ## The step -/

/-- When the word on the input `cmd` decodes to a well-formed instruction, the step is that instruction's, and then the next
inputs are on the pins (the pins keep their values where none follow: the model's choice, log entry 3); no instruction is
refused. -/
def Obligations.StepRunsTheDecodedCommand : Prop :=
  ∀ (s : State) (i : Instr), decodeCommand s.pins.cmd = .ok i → i.wf = true →
    (∀ t, exec i s = .next t → t.upcoming = [] → step s = .next t) ∧
    (∀ t j rest, exec i s = .next t → t.upcoming = j :: rest →
      step s = .next { t with pins := j, upcoming := rest }) ∧
    (∀ f, exec i s = .fault f → step s = .fault f) ∧
    (∀ r, exec i s ≠ .refused r)

/-- The word that `withFetchWord` places is the one the next step runs: a command word from the input `cmd`; a step word
from the ROM, by the sequencer, which a start has put on step 0 of the pattern. -/
def Obligations.StepRunsThePlacedWord : Prop :=
  (∀ (s : State) (w : Nat) (i : Instr), decodeTableWord 32 w = some i →
    step (s.withFetchWord 32 w) = afterCommand (exec i (s.withFetchWord 32 w))) ∧
  (∀ (s : State) (w : Nat) (i : Instr), decodeTableWord 40 w = some i →
    step (s.withFetchWord 40 w) =
      afterCommand
        (exec i ((s.withFetchWord 40 w).startPattern .hornSteady (stepDuration (BitVec.ofNat 40 w)))))

/-- A reserved command changes no register, emits no event and gives the zero result with `cmd_err = 1`; every other command
gives `cmd_err = 0`; a program that holds a reserved command is refused: R163. -/
def Obligations.ReservedCommandIsHarmless : Prop :=
  let reserved (w : CommandWord) : Prop :=
    10 ≤ (opField w).toNat ∨ ((opField w).toNat = 5 ∧ 5 ≤ (patField w).toNat)
  (∀ s : State, reserved s.pins.cmd → ∃ t, step s = .next t ∧
    t.dsc = s.dsc ∧ t.tse = s.tse ∧ t.out = s.out ∧ t.lvg = s.lvg ∧ t.config = s.config ∧
    t.events = [] ∧ t.result = ⟨false, 0, 0, true⟩) ∧
  (∀ s t : State, ¬reserved s.pins.cmd → step s = .next t → t.result.cmdErr = false) ∧
  (∀ (c : Config) (lines : List Line) (s : State), loadProgram c lines = .ok s →
    ∀ j, (j = s.pins ∨ j ∈ s.upcoming) → ¬reserved j.cmd)

/-- The whole next state of a reserved command, whether its word is on the input `cmd` or the instruction is given: R163.
That a word the decoder rejects by name takes a step is the model's reading of R73 and V1 (log entry 8); that the next inputs
are then on the pins, or the pins keep their values where none follow, is the model's choice (log entry 3). -/
def Obligations.ReservedCommandTakesAStep : Prop :=
  (∀ (s : State) (e : DecodeError), decodeCommand s.pins.cmd = .error e → s.upcoming = [] →
    step s = .next { s with result := ⟨false, 0, 0, true⟩, events := [] }) ∧
  (∀ (s : State) (e : DecodeError) (j : Inputs) (rest : List Inputs),
    decodeCommand s.pins.cmd = .error e → s.upcoming = j :: rest →
    step s = .next { s with result := ⟨false, 0, 0, true⟩, events := [], pins := j, upcoming := rest }) ∧
  (∀ (s : State) (pat : BitVec 3), 5 ≤ pat.toNat →
    exec (.seqStart pat) s = .next { s with result := ⟨false, 0, 0, true⟩, events := [] })

/-! ## The commands of no sub-block and the DSC -/

/-- `NOP`: no register is written, no event, the zero result: R160. -/
def Obligations.NopChangesNoRegister : Prop :=
  (∀ w : CommandWord, opField w = 0#4 → decodeCommand w = .ok .nop) ∧
  ∀ s : State, exec .nop s = .next { s with result := ⟨false, 0, 0, false⟩, events := [] }

/-- `SW_GET` returns the latch as it stands and writes no register: R92. -/
def Obligations.SwGetReturnsTheLatch : Prop :=
  (∀ w : CommandWord, opField w = 3#4 → decodeCommand w = .ok .swGet) ∧
  ∀ s : State, exec .swGet s = .next { s with result := ⟨s.dsc.status, 0, 0, false⟩, events := [] }

/-- `SW_CLEAR` writes `sw_status <- 0` and nothing else: R93. -/
def Obligations.SwClearReleasesStatusOnly : Prop :=
  (∀ w : CommandWord, opField w = 4#4 → decodeCommand w = .ok .swClear) ∧
  ∀ s : State, exec .swClear s =
    .next { s with dsc := ⟨s.dsc.count, false, s.dsc.lastTick⟩, result := ⟨false, 0, 0, false⟩, events := [] }

/-- `SW_UPDATE`, every branch of its pseudocode: R91. -/
def Obligations.SwUpdateMovesTheCounter : Prop :=
  (∀ w : CommandWord, opField w = 2#4 → decodeCommand w = .ok .swUpdate) ∧
  ∀ s : State, exec .swUpdate s =
    .next { s with
      dsc :=
        let tick := s.pins.tick % 2 ^ s.par.tickW
        if tick = s.dsc.lastTick then s.dsc
        else if s.pins.rawLevel = s.par.swActiveLevel then
          if s.dsc.count < s.par.debMax then
            if s.dsc.count + 1 = s.par.debPress then ⟨s.par.debMax, true, tick⟩
            else ⟨s.dsc.count + 1, s.dsc.status, tick⟩
          else ⟨s.dsc.count, s.dsc.status, tick⟩
        else if 0 < s.dsc.count then
          if s.dsc.count - 1 = s.par.debMax - s.par.debRelease then ⟨0, false, tick⟩
          else ⟨s.dsc.count - 1, s.dsc.status, tick⟩
        else ⟨s.dsc.count, s.dsc.status, tick⟩
      result := ⟨false, 0, 0, false⟩
      events := [] }

/-- An active sample never releases the status and an inactive one never presses it: the first half of the spec's
inference R95. -/
def Obligations.StatusMovesWithTheSample : Prop :=
  ∀ s t : State, exec .swUpdate s = .next t →
    (s.switchActive = true → s.dsc.status = true → t.dsc.status = true) ∧
    (s.switchActive = false → t.dsc.status = true → s.dsc.status = true)

/-- From settled-released an unbroken run of active samples presses exactly at the `DEB_PRESS`-th working update; from
settled-pressed an unbroken run of inactive samples releases exactly at the `DEB_RELEASE`-th: the spec's inference R94. -/
def Obligations.PressAndReleaseLatchOnTime : Prop :=
  (∀ (s : State) (ins : List Inputs), FreshTicks s.par s.dsc.lastTick ins → AllCommand .swUpdate ins →
    AllSamples s.par true ins → s.dsc.status = false → s.dsc.count = 0 →
    ∃ t, drive ins s = .next t ∧ t.dsc.status = decide (s.par.debPress ≤ ins.length) ∧
      t.dsc.count = if ins.length < s.par.debPress then ins.length else s.par.debMax) ∧
  (∀ (s : State) (ins : List Inputs), FreshTicks s.par s.dsc.lastTick ins → AllCommand .swUpdate ins →
    AllSamples s.par false ins → s.dsc.status = true → s.dsc.count = s.par.debMax →
    ∃ t, drive ins s = .next t ∧ t.dsc.status = decide (ins.length < s.par.debRelease) ∧
      t.dsc.count = if ins.length < s.par.debRelease then s.par.debMax - ins.length else 0)

/-- After a clear with the counter at the ceiling, a held button reports nothing however long it is held, and a run of
inactive samples is counted down to the floor at the `DEB_RELEASE`-th with the status still released: the spec's inference R96. -/
def Obligations.ClearedPressStaysCleared : Prop :=
  (∀ (s : State) (ins : List Inputs), FreshTicks s.par s.dsc.lastTick ins → AllCommand .swUpdate ins →
    AllSamples s.par true ins → s.dsc.status = false → s.dsc.count = s.par.debMax →
    ∃ t, drive ins s = .next t ∧ t.dsc.status = false ∧ t.dsc.count = s.par.debMax) ∧
  (∀ (s : State) (ins : List Inputs), FreshTicks s.par s.dsc.lastTick ins → AllCommand .swUpdate ins →
    AllSamples s.par false ins → s.dsc.status = false → s.dsc.count = s.par.debMax →
    ∃ t, drive ins s = .next t ∧ t.dsc.status = false ∧
      t.dsc.count = if ins.length < s.par.debRelease then s.par.debMax - ins.length else 0)

/-! ## The PDC -/

/-- `PWM_CALC` gives the clamped, saturated period and its compare value as results and writes no register: R100 to
R103. -/
def Obligations.PwmCalcGivesPeriodAndCompare : Prop :=
  (∀ w : CommandWord, opField w = 8#4 → decodeCommand w = .ok (.pwmCalc (freqField w) (dutyField w))) ∧
  ∀ (freq : BitVec 16) (duty : BitVec 8) (s : State), exec (.pwmCalc freq duty) s =
    .next { s with
      result :=
        let f := min (max freq.toNat s.par.minFreq) s.par.maxFreq
        let d := min duty.toNat 100
        let q := s.par.clockHz / s.par.prescaler / f
        let period := min (if 1 ≤ q then q - 1 else 0) s.par.periodMax
        ⟨false, period, if d = 100 then period else period * d / 100, false⟩
      events := [] }

/-- The period is at most `PERIOD_MAX`, the compare value at most the period and equal to it exactly for a clamped duty of
100 or a period of 0: the spec's inference R104. -/
def Obligations.PwmResultsStayInRange : Prop :=
  ∀ (p : Params) (freq : BitVec 16) (duty : BitVec 8),
    (pwmCalc p freq duty).period ≤ p.periodMax ∧
    (pwmCalc p freq duty).compare ≤ (pwmCalc p freq duty).period ∧
    ((pwmCalc p freq duty).compare = (pwmCalc p freq duty).period ↔
      min duty.toNat 100 = 100 ∨ (pwmCalc p freq duty).period = 0)

/-- Under an accepted configuration the period does not grow with the frequency and the compare value does not shrink with
the duty: the spec's inference R105. -/
def Obligations.PwmCalcIsMonotone : Prop :=
  (∀ (c : Config) (f g : BitVec 16) (u v : BitVec 8), f.toNat ≤ g.toNat →
    (pwmCalc c.params g v).period ≤ (pwmCalc c.params f u).period) ∧
  (∀ (c : Config) (f : BitVec 16) (u v : BitVec 8), u.toNat ≤ v.toNat →
    (pwmCalc c.params f u).compare ≤ (pwmCalc c.params f v).compare)

/-! ## The TSE -/

/-- `SEQ_START pat`, for each of the five patterns: the word at `PATTERN_BASE[pat]` is read, and both forms of it: R111.  The
ids are the numbers of R68's table. -/
def Obligations.SeqStartSelectsThePattern : Prop :=
  (PatternId.hornSteady.toBits = 0 ∧ PatternId.bellDecay.toBits = 1 ∧ PatternId.chargeChime.toBits = 2 ∧
    PatternId.lowBattChime.toBits = 3 ∧ PatternId.miniHonk.toBits = 4) ∧
  (∀ w : CommandWord, opField w = 5#4 → (patField w).toNat ≤ 4 → decodeCommand w = .ok (.seqStart (patField w))) ∧
  ∀ (s : State) (p : PatternId), ∃ w, romRead s.par (s.par.patternBase.get p + 0) = .ok w ∧
    (stepDuration w = 0#16 → exec (.seqStart p.toBits) s =
      .next { s with
        tse := ⟨p, 0, 0, s.pins.tick % 2 ^ s.par.tickW, false⟩
        result := ⟨false, 0, 0, false⟩
        events := [] }) ∧
    (stepDuration w ≠ 0#16 → exec (.seqStart p.toBits) s =
      .next { s with
        tse := ⟨p, 0, (stepDuration w).toNat, s.pins.tick % 2 ^ s.par.tickW, true⟩
        out := { s.out with tone := pwmCalc s.par (stepFreq w) (stepDuty w) }
        result := ⟨false, 0, 0, false⟩
        events := [.programTone (pwmCalc s.par (stepFreq w) (stepDuty w))] })

/-- `SEQ_UPDATE`, every branch of its pseudocode: R112. -/
def Obligations.SeqUpdateAdvancesThePlayback : Prop :=
  (∀ w : CommandWord, opField w = 6#4 → decodeCommand w = .ok .seqUpdate) ∧
  ∀ s : State,
    let tick := s.pins.tick % 2 ^ s.par.tickW
    let next := romRead s.par (s.par.patternBase.get s.tse.pattern + (s.tse.index + 1))
    (tick = s.tse.lastTick → exec .seqUpdate s =
      .next { s with result := ⟨s.tse.active, 0, 0, false⟩, events := [] }) ∧
    (tick ≠ s.tse.lastTick → s.tse.active = false → exec .seqUpdate s =
      .next { s with
        tse := { s.tse with lastTick := tick }
        result := ⟨false, 0, 0, false⟩
        events := [] }) ∧
    (tick ≠ s.tse.lastTick → s.tse.active = true → 0 < s.tse.remaining → exec .seqUpdate s =
      .next { s with
        tse := { s.tse with remaining := s.tse.remaining - 1, lastTick := tick }
        result := ⟨true, 0, 0, false⟩
        events := [] }) ∧
    (∀ w, tick ≠ s.tse.lastTick → s.tse.active = true → s.tse.remaining = 0 → next = .ok w →
      stepDuration w ≠ 0#16 → exec .seqUpdate s =
      .next { s with
        tse := { s.tse with
          index := s.tse.index + 1, remaining := (stepDuration w).toNat, lastTick := tick }
        out := { s.out with tone := pwmCalc s.par (stepFreq w) (stepDuty w) }
        result := ⟨true, 0, 0, false⟩
        events := [.programTone (pwmCalc s.par (stepFreq w) (stepDuty w))] }) ∧
    (∀ w, tick ≠ s.tse.lastTick → s.tse.active = true → s.tse.remaining = 0 → next = .ok w →
      stepDuration w = 0#16 → exec .seqUpdate s =
      .next { s with
        tse := { s.tse with active := false, lastTick := tick }
        result := ⟨false, 0, 0, false⟩
        events := [] })

/-- A `SEQ_UPDATE` whose next step stands outside the ROM stops with the address.  The spec gives that address no word (R50)
and refuses every configuration in which a run could reach it (D40): the stop is the model's choice (log entry 10). -/
def Obligations.SeqUpdateStopsOutsideTheRom : Prop :=
  ∀ s : State, s.tickIn ≠ s.tse.lastTick → s.tse.active = true → s.tse.remaining = 0 →
    s.par.patternRom.length ≤ s.par.patternBase.get s.tse.pattern + (s.tse.index + 1) →
    exec .seqUpdate s = .fault (.romAddress (s.par.patternBase.get s.tse.pattern + (s.tse.index + 1)))

/-- `SEQ_ABORT` writes `seq_active <- 0` and nothing else: R115. -/
def Obligations.SeqAbortMarksIdleOnly : Prop :=
  (∀ w : CommandWord, opField w = 7#4 → decodeCommand w = .ok .seqAbort) ∧
  ∀ s : State, exec .seqAbort s =
    .next { s with tse := { s.tse with active := false }, result := ⟨false, 0, 0, false⟩, events := [] }

/-- A `STEP` programs its tone and loads its duration; an `END` clears `seq_active`: R113, R114.  That the two give the zero
result when they are run alone is the model's choice (log entry 6). -/
def Obligations.StepWordsDoTheirEffect : Prop :=
  (∀ (d f : BitVec 16) (u : BitVec 8) (s : State), d ≠ 0#16 → exec (.stepWord d f u) s =
    .next { s with
      tse := { s.tse with remaining := d.toNat }
      out := { s.out with tone := pwmCalc s.par f u }
      result := ⟨false, 0, 0, false⟩
      events := [.programTone (pwmCalc s.par f u)] }) ∧
  (∀ s : State, exec .endWord s =
    .next { s with tse := { s.tse with active := false }, result := ⟨false, 0, 0, false⟩, events := [] })

/-- The sequencer's two commands run the step words of the ROM: a start runs the word of step 0 on the started registers; an
update that is due runs the next word, on the advanced index where it is a `STEP`: R111 to R114. -/
def Obligations.SequencerRunsTheRomWords : Prop :=
  (∀ (s t : State) (p : PatternId) (w : StepWord), romRead s.par (s.par.patternBase.get p + 0) = .ok w →
    exec (decodeStepWord w) (s.startPattern p (stepDuration w)) = .next t →
    exec (.seqStart p.toBits) s = .next t) ∧
  (∀ (s t : State) (w : StepWord), s.tickIn ≠ s.tse.lastTick → s.tse.active = true → s.tse.remaining = 0 →
    romRead s.par (s.par.patternBase.get s.tse.pattern + (s.tse.index + 1)) = .ok w →
    (stepDuration w ≠ 0#16 → exec (decodeStepWord w) s.takeSeqTick.advanceIndex = .next t →
      exec .seqUpdate s = .next (t.setResBool true)) ∧
    (stepDuration w = 0#16 → exec (decodeStepWord w) s.takeSeqTick = .next t → exec .seqUpdate s = .next t))

/-- After a `SEQ_START`, the working updates before the one numbered `d_0 + … + d_(n-1) + n` return 1, and that one and all
later ones return 0: the spec's inferences R117, R119. -/
def Obligations.PlaybackHasTheSpecLength : Prop :=
  ∀ (s u : State) (p : PatternId) (ins : List Inputs), exec (.seqStart p.toBits) s = .next u →
    FreshTicks s.par s.tickIn ins → AllCommand .seqUpdate ins → ins ≠ [] →
    ∃ t, drive ins u = .next t ∧
      t.result.resBool =
        decide (ins.length < playUpdates (s.par.patternRom.drop (s.par.patternBase.get p))) ∧
      t.tse.active = t.result.resBool

/-- Once the sequencer is idle, every `SEQ_UPDATE` returns 0 and changes no register but `seq_last_tick`: the spec's
inference R119. -/
def Obligations.IdleSequencerStaysIdle : Prop :=
  ∀ (s : State) (ins : List Inputs), s.tse.active = false → AllCommand .seqUpdate ins → ins ≠ [] →
    ∃ t, drive ins s = .next t ∧ t.result = ⟨false, 0, 0, false⟩ ∧ t.events = [] ∧
      t.tse = { s.tse with lastTick := t.tse.lastTick } ∧ t.dsc = s.dsc ∧ t.out = s.out ∧ t.lvg = s.lvg

/-! ## The LVG, one statement a state -/

/-- What the guard calls inside its update has exactly the effect of the command of the same name: the spec's inference R110
for the TSE, R93 for `SwClear()`. -/
def Obligations.GuardCallsAreTheCommands : Prop :=
  (∀ (s : State) (p : PatternId), exec (.seqStart p.toBits) s = .next (s.begin.seqStart p)) ∧
  (∀ (s u : State) (playing : Bool), seqUpdate s.begin = .ok (playing, u) →
    exec .seqUpdate s = .next { u with result := ⟨playing, 0, 0, false⟩ }) ∧
  (∀ s : State, exec .seqAbort s = .next s.begin.seqAbort) ∧
  (∀ s : State, exec .swClear s = .next s.begin.swClear)

/-- Without an elapsed tick `LVG_UPDATE` does nothing at all, whatever the state: R130. -/
def Obligations.LvgUpdateNeedsATick : Prop :=
  (∀ w : CommandWord, opField w = 9#4 → decodeCommand w = .ok .lvgUpdate) ∧
  ∀ s : State, s.pins.tick % 2 ^ s.par.tickW = s.lvg.lastTick →
    exec .lvgUpdate s = .next { s with result := ⟨false, 0, 0, false⟩, events := [] }

/-- State INIT: R134. -/
def Obligations.GuardInitArmsAndGoesToKill : Prop :=
  ∀ s : State, s.lvg.state = .init → s.tickIn ≠ s.lvg.lastTick →
    exec .lvgUpdate s =
      .next { s with
        out := { s.out with cmpSel := .critical }
        lvg :=
          { state := .kill, guardTimer := s.par.tKill, commitTimer := s.par.tCommitInit, lvCount := 0,
            lvSticky := false,
            selPattern :=
              if s.dsc.status then
                (if s.pins.configMode = .fullBell then .bellDecay else .miniHonk)
              else .chargeChime,
            lastTick := s.tickIn }
        result := ⟨false, 0, 0, false⟩
        events := [.setCmpThreshold .critical] }

/-- State KILL: the comparator first, then the kill timer: R135. -/
def Obligations.GuardKillDecides : Prop :=
  ∀ s : State, s.lvg.state = .kill → s.tickIn ≠ s.lvg.lastTick →
    (s.pins.cmpTripped = true → exec .lvgUpdate s =
      .next { s with
        lvg := { s.lvg with state := .dead, lastTick := s.tickIn }
        result := ⟨false, 0, 0, false⟩
        events := [] }) ∧
    (s.pins.cmpTripped = false → s.lvg.guardTimer ≤ 1 → exec .lvgUpdate s =
      .next { s with
        out := { s.out with cmpSel := .lowBatt }
        lvg := { s.lvg with state := .checkHornActive, guardTimer := s.par.tMaxHonk, lastTick := s.tickIn }
        result := ⟨false, 0, 0, false⟩
        events := [.setCmpThreshold .lowBatt] }) ∧
    (s.pins.cmpTripped = false → 1 < s.lvg.guardTimer → exec .lvgUpdate s =
      .next { s with
        lvg := { s.lvg with guardTimer := s.lvg.guardTimer - 1, lastTick := s.tickIn }
        result := ⟨false, 0, 0, false⟩
        events := [] })

/-- State CHECK_BELL, over what `SeqUpdate()` answers in it: R136. -/
def Obligations.GuardCheckBellFollowsTheSequencer : Prop :=
  ∀ (s u : State) (playing : Bool), s.lvg.state = .checkBell → s.tickIn ≠ s.lvg.lastTick →
    seqUpdate s.begin.takeGuardTick = .ok (playing, u) →
    (playing = true → s.dsc.status = false → exec .lvgUpdate s = .next u) ∧
    (playing = true → s.dsc.status = true → exec .lvgUpdate s =
      .next { u with
        tse := { u.tse with active := false }
        lvg := { u.lvg with
          state := .checkHornActive, guardTimer := s.par.tMaxHonk, commitTimer := s.par.tCommit,
          selPattern := releasePattern s.pins.configMode } }) ∧
    (playing = false → s.lvg.lvSticky = true → exec .lvgUpdate s =
      .next { u.seqStart .lowBattChime with lvg := { u.lvg with state := .endBeep } }) ∧
    (playing = false → s.lvg.lvSticky = false → exec .lvgUpdate s =
      .next { u with lvg := { u.lvg with state := .checkHornIdle, guardTimer := s.par.tRebeepWait } })

/-- State CHECK_HORN_IDLE: horn off first and always, then the switch, then the wait timer: R137. -/
def Obligations.GuardCheckHornIdleSilencesAndWaits : Prop :=
  ∀ s : State, s.lvg.state = .checkHornIdle → s.tickIn ≠ s.lvg.lastTick →
    let quiet : State :=
      { s with
        out := { s.out with hornOut := false, tone := ⟨s.out.tone.period, 0⟩ }
        result := ⟨false, 0, 0, false⟩
        events := [.setHorn false, .programTone ⟨s.out.tone.period, 0⟩] }
    (s.dsc.status = true → exec .lvgUpdate s =
      .next { quiet with
        lvg := { s.lvg with
          state := .checkHornActive, guardTimer := s.par.tMaxHonk, commitTimer := s.par.tCommit,
          selPattern := releasePattern s.pins.configMode, lastTick := s.tickIn } }) ∧
    (s.dsc.status = false → (1 < s.lvg.guardTimer ∨ s.lvg.lvSticky = false) → exec .lvgUpdate s =
      .next { quiet with
        lvg := { s.lvg with guardTimer := s.lvg.guardTimer - 1, lastTick := s.tickIn } }) ∧
    (s.dsc.status = false → s.lvg.guardTimer ≤ 1 → s.lvg.lvSticky = true → exec .lvgUpdate s =
      .next { quiet.seqStart .lowBattChime with
        lvg := { s.lvg with state := .endBeep, guardTimer := 0, lastTick := s.tickIn } })

/-- State CHECK_HORN_ACTIVE: a held tick with its four parts, and the release: R138. -/
def Obligations.GuardCheckHornActiveHonksOrReleases : Prop :=
  ∀ s : State, s.lvg.state = .checkHornActive → s.tickIn ≠ s.lvg.lastTick →
    (s.dsc.status = true → exec .lvgUpdate s =
      (let count :=
        if s.pins.cmpTripped then
          (if s.lvg.lvCount < s.par.lvCountMax then s.lvg.lvCount + 1 else s.lvg.lvCount)
        else s.lvg.lvCount - 1
      .next { s with
        dsc := { s.dsc with status := decide (1 < s.lvg.guardTimer) }
        out := { s.out with hornOut := if s.lvg.commitTimer ≤ 1 then true else s.out.hornOut }
        lvg := { s.lvg with
          guardTimer := s.lvg.guardTimer - 1, commitTimer := s.lvg.commitTimer - 1, lvCount := count,
          lvSticky := s.lvg.lvSticky || (s.pins.cmpTripped && decide (s.par.lvConfirm ≤ count)),
          selPattern := if s.pins.configMode = .fullBell then .bellDecay else .miniHonk,
          lastTick := s.tickIn }
        result := ⟨false, 0, 0, false⟩
        events := if s.lvg.commitTimer ≤ 1 then [.setHorn true] else [] })) ∧
    (s.dsc.status = false → exec .lvgUpdate s =
      (let off : State :=
        { s with
          out := { s.out with hornOut := false }
          result := ⟨false, 0, 0, false⟩
          events := [.setHorn false] }
      .next { off.seqStart s.lvg.selPattern with
        lvg := { s.lvg with state := .checkBell, lastTick := s.tickIn } }))

/-- State END_BEEP, over what `SeqUpdate()` answers in it; `red` is the fallthrough into DEAD's action: R139. -/
def Obligations.GuardEndBeepPlaysOrOverrides : Prop :=
  ∀ s : State, s.lvg.state = .endBeep → s.tickIn ≠ s.lvg.lastTick →
    let red (t : State) : State :=
      if s.par.endBeepFallsIntoDead then
        { t with out := { t.out with indRed := true }, events := t.events ++ [.setIndicator .red true] }
      else t
    (s.dsc.status = true → exec .lvgUpdate s =
      .next (red { s with
        tse := { s.tse with active := false }
        lvg := { s.lvg with
          state := .checkHornActive, guardTimer := s.par.tMaxHonk, commitTimer := s.par.tCommit,
          selPattern := releasePattern s.pins.configMode, lastTick := s.tickIn }
        result := ⟨false, 0, 0, false⟩
        events := [] })) ∧
    (∀ u, s.dsc.status = false → seqUpdate s.begin.takeGuardTick = .ok (true, u) →
      exec .lvgUpdate s = .next (red u)) ∧
    (∀ u, s.dsc.status = false → seqUpdate s.begin.takeGuardTick = .ok (false, u) →
      exec .lvgUpdate s =
        .next (red { u with
          out := { u.out with hornOut := false, tone := ⟨u.out.tone.period, 0⟩ }
          lvg := { u.lvg with guardTimer := 0 }
          events := u.events ++ [.setHorn false, .programTone ⟨u.out.tone.period, 0⟩] }))

/-- State DEAD, and the reserved value 7: the red indicator is asserted and no other register but the last tick is written:
R140, R141. -/
def Obligations.GuardDeadOnlyAssertsRed : Prop :=
  ∀ s : State, s.lvg.state = .dead ∨ s.lvg.state = .reserved → s.tickIn ≠ s.lvg.lastTick →
    exec .lvgUpdate s =
      .next { s with
        out := { s.out with indRed := true }
        lvg := { s.lvg with lastTick := s.tickIn }
        result := ⟨false, 0, 0, false⟩
        events := [.setIndicator .red true] }

/-! ## POLL -/

/-- `POLL` is `SW_UPDATE`, then `LVG_UPDATE` on the same inputs unless charging: R161. -/
def Obligations.PollIsSwitchThenGuard : Prop :=
  (∀ w : CommandWord, opField w = 1#4 → decodeCommand w = .ok .poll) ∧
  ∀ s u : State, exec .swUpdate s = .next u →
    (s.pins.charging = true → exec .poll s = .next u) ∧
    (s.pins.charging = false → exec .poll s = exec .lvgUpdate u)

/-- A second `POLL` on the same inputs changes no register and emits no event: R161 (a), R203. -/
def Obligations.SecondPollOfATickDoesNothing : Prop :=
  ∀ s t : State, exec .poll s = .next t →
    exec .poll t = .next { t with result := ⟨false, 0, 0, false⟩, events := [] }

/-- While charging, `POLL` moves no register of the guard, the sequencer or the outputs: R165. -/
def Obligations.ChargingFreezesTheGuard : Prop :=
  ∀ s t : State, s.pins.charging = true → exec .poll s = .next t →
    t.lvg = s.lvg ∧ t.tse = s.tse ∧ t.out = s.out ∧ t.events = []

/-- Where the sequencer stands inside its pattern, the three updates complete: R170, and the spec's inference R116. -/
def Obligations.UpdatesComplete : Prop :=
  ∀ s : State, s.InPattern →
    (∃ t, exec .seqUpdate s = .next t ∧ t.result = ⟨t.tse.active, 0, 0, false⟩) ∧
    (∃ t, exec .lvgUpdate s = .next t ∧ t.result = ⟨false, 0, 0, false⟩ ∧ t.lvg.lastTick = s.tickIn) ∧
    (∃ t, exec .poll s = .next t ∧ t.result = ⟨false, 0, 0, false⟩ ∧ t.dsc.lastTick = s.tickIn)

/-! ## The machine as a whole -/

/-- Every command of a state that meets the invariant completes: no fault, no refusal: R170, and the spec's
inference R116. -/
def Obligations.EveryCommandCompletes : Prop :=
  ∀ s : State, s.Inv → ∃ t, step s = .next t

/-- Every step keeps the invariant: the ranges of the spec's inference R35 and the sequencer's place of its
inference R116. -/
def Obligations.StepKeepsInvariant : Prop :=
  ∀ s t : State, s.Inv → step s = .next t → t.Inv

/-- The state after reset meets every invariant, under every accepted configuration: the spec's inferences R35, R116, R144,
R146, and the timers' range of R25.  That `State.reset` has an unknown accepted configuration is the model's choice (log entry 1). -/
def Obligations.ResetMeetsTheInvariants : Prop :=
  (∀ c : Config, (State.resetWith c).Inv ∧ (State.resetWith c).TimersFit ∧ (State.resetWith c).Exclusive ∧
    (State.resetWith c).IdleNotSticky) ∧
  (∃ c : Config, State.reset = State.resetWith c) ∧
  State.reset.Inv ∧ State.reset.TimersFit ∧ State.reset.Exclusive ∧ State.reset.IdleNotSticky

/-- The reset value of each of the 20 registers, under every accepted configuration: R196. -/
def Obligations.ResetValuesAreTheSpecs : Prop :=
  ∀ c : Config,
    (State.resetWith c).dsc = ⟨c.params.debSeed, false, 0⟩ ∧
    (State.resetWith c).tse = ⟨.hornSteady, 0, 0, 0, false⟩ ∧
    (State.resetWith c).out = ⟨⟨0, 0⟩, false, false, .critical⟩ ∧
    (State.resetWith c).lvg = ⟨.init, 0, 0, 0, false, .chargeChime, 0⟩ ∧
    (State.resetWith c).config = c

/-- An update issued while `tick = 0` right after reset does nothing: R198. -/
def Obligations.UpdatesAtTickZeroAfterResetDoNothing : Prop :=
  ∀ (c : Config) (pins : Inputs) (i : Instr), pins.tick % 2 ^ c.params.tickW = 0 →
    i = .poll ∨ i = .swUpdate ∨ i = .seqUpdate ∨ i = .lvgUpdate →
    exec i ((State.resetWith c).withPins pins) = .next ((State.resetWith c).withPins pins)

/-- The one-way latches: the red indicator stays on, DEAD is never left, INIT is never entered, and the sticky flag falls only
in INIT and rises only on a tripped sample of CHECK_HORN_ACTIVE: the spec's inferences R34, R143. -/
def Obligations.LatchesAreOneWay : Prop :=
  ∀ s t : State, step s = .next t →
    (s.out.indRed = true → t.out.indRed = true) ∧
    (s.lvg.state = .dead → t.lvg.state = .dead) ∧
    (t.lvg.state = .init → s.lvg.state = .init) ∧
    (s.lvg.lvSticky = true → t.lvg.lvSticky = true ∨ s.lvg.state = .init) ∧
    (t.lvg.lvSticky = true →
      s.lvg.lvSticky = true ∨ (s.lvg.state = .checkHornActive ∧ s.pins.cmpTripped = true))

/-- A step moves the guard only along the transition table: the spec's inference R142. -/
def Obligations.GuardMovesAlongTheTable : Prop :=
  ∀ s t : State, step s = .next t → t.lvg.state = s.lvg.state ∨ s.lvg.state.mayFollow t.lvg.state = true

/-- DEAD is entered only from KILL, on a tripped comparator: the spec's inference R147. -/
def Obligations.DeadIsEnteredOnlyFromKill : Prop :=
  ∀ s t : State, step s = .next t → t.lvg.state = .dead →
    s.lvg.state = .dead ∨ (s.lvg.state = .kill ∧ s.pins.cmpTripped = true)

/-- While the host leaves the TSE commands to the guard, every step keeps the mutual exclusion: the spec's
inference R146. -/
def Obligations.StepKeepsMutualExclusion : Prop :=
  ∀ s t : State, s.Exclusive → (∀ i, decodeCommand s.pins.cmd = .ok i → i.drivesSequencer = false) →
    step s = .next t → t.Exclusive

/-- Every step keeps the sticky flag 0 throughout CHECK_HORN_IDLE, so its branch into END_BEEP is never taken: the
spec's inference R144. -/
def Obligations.StepKeepsIdleNotSticky : Prop :=
  ∀ s t : State, s.IdleNotSticky → step s = .next t →
    t.IdleNotSticky ∧ ¬(s.lvg.state = .checkHornIdle ∧ t.lvg.state = .endBeep)

/-- Every step keeps the two timers within the range of R25.  It rests on an accepted configuration having no timeout above
65535, which is the model's reading of R5 beside R25 (log entry 5). -/
def Obligations.StepKeepsTimersWithinSixteenBits : Prop :=
  ∀ s t : State, s.TimersFit → step s = .next t → t.TimersFit

/-- Which command may write which register: what each leaves unchanged: R2, R21 and every empty cell of the access summary of
spec/10_state.md section 8.  A `STEP` and an `END`, which have no column there, write what R113 and R114 give them. -/
def Obligations.CommandsWriteOnlyWhatTheyOwn : Prop :=
  ∀ (i : Instr) (s t : State), exec i s = .next t →
    (t.config = s.config ∧ t.pins = s.pins ∧ t.upcoming = s.upcoming) ∧
    (i ≠ .swUpdate → i ≠ .poll → t.dsc.count = s.dsc.count ∧ t.dsc.lastTick = s.dsc.lastTick) ∧
    (i ≠ .swUpdate → i ≠ .swClear → i ≠ .poll → i ≠ .lvgUpdate → t.dsc.status = s.dsc.status) ∧
    (i.drivesSequencer = false → i ≠ .poll → i ≠ .lvgUpdate → t.tse = s.tse ∧ t.out.tone = s.out.tone) ∧
    (i = .seqUpdate → t.tse.pattern = s.tse.pattern) ∧
    (i = .seqAbort ∨ i = .endWord →
      t.tse = { s.tse with active := t.tse.active } ∧ t.out.tone = s.out.tone) ∧
    (∀ d f u, i = .stepWord d f u →
      t.tse.pattern = s.tse.pattern ∧ t.tse.index = s.tse.index ∧ t.tse.lastTick = s.tse.lastTick) ∧
    (i ≠ .poll → i ≠ .lvgUpdate →
      t.lvg = s.lvg ∧ t.out.hornOut = s.out.hornOut ∧ t.out.indRed = s.out.indRed ∧ t.out.cmpSel = s.out.cmpSel)

/-- Every output register write comes with its event, in order: the output registers after a command are those before it
with its events replayed: R9, R61.  The pins show the output registers and the three status registers (R24, R27), with the
numbers of R75 and R76; `cmp_sel` selects the code the DAC gets and `config_mode` the variant (R76). -/
def Obligations.OutputsFollowTheEvents : Prop :=
  (∀ (i : Instr) (s t : State), exec i s = .next t → t.out = t.events.foldl Event.applyTo s.out) ∧
  (∀ s : State, s.outputPins =
    ⟨s.out.tone.period, s.out.tone.compare, s.out.hornOut, s.out.indRed, s.out.cmpSel.toBits, s.dsc.status, s.tse.active,
      s.lvg.state.toBits⟩) ∧
  (GuardState.init.toBits = 0 ∧ GuardState.kill.toBits = 1 ∧ GuardState.checkBell.toBits = 2 ∧
    GuardState.checkHornIdle.toBits = 3 ∧ GuardState.checkHornActive.toBits = 4 ∧ GuardState.endBeep.toBits = 5 ∧
    GuardState.dead.toBits = 6 ∧ GuardState.reserved.toBits = 7) ∧
  (CmpLevel.critical.toBits = 0 ∧ CmpLevel.lowBatt.toBits = 1) ∧
  (ConfigMode.fullBell.toBits = 0 ∧ ConfigMode.abbreviatedHonk.toBits = 1) ∧
  (∀ s : State, (s.outputPins.cmpSel = 0 → s.dacCode = s.par.dacCritical) ∧
    (s.outputPins.cmpSel = 1 → s.dacCode = s.par.dacLowBatt))

/-- By how much the tick moved is invisible: two runs of a command that differ only in a new tick value differ afterwards only
in the values of ticks: R8. -/
def Obligations.AmountOfTickIsInvisible : Prop :=
  ∀ (i : Instr) (s : State) (a b : Nat), (s.withTick a).TickFresh → (s.withTick b).TickFresh →
    forgetOutcomeTicks (exec i (s.withTick a)) = forgetOutcomeTicks (exec i (s.withTick b))

/-- Over the held ticks of a visit to CHECK_HORN_ACTIVE that began with `commit_timer = N`, the horn is driven from the
`max(N, 1)`-th on and not before: the spec's inference R145, for visits driven by `LVG_UPDATE` alone (none by `POLL`, no other
command between). -/
def Obligations.TapIsSilentAndHoldHonks : Prop :=
  ∀ (s : State) (ins : List Inputs), s.lvg.state = .checkHornActive → s.dsc.status = true →
    s.out.hornOut = false → FreshTicks s.par s.lvg.lastTick ins → AllCommand .lvgUpdate ins → ins ≠ [] →
    ins.length ≤ max s.lvg.guardTimer 1 →
    ∃ t, drive ins s = .next t ∧ t.lvg.state = .checkHornActive ∧
      t.out.hornOut = decide (max s.lvg.commitTimer 1 ≤ ins.length)

/-- Alternating comparator readings over held ticks keep the detection counter in {0, 1} and never set the sticky flag when
`LV_CONFIRM >= 2`: the spec's inference R148. -/
def Obligations.AlternatingReadingsNeverConfirm : Prop :=
  ∀ (s : State) (ins : List Inputs), s.lvg.state = .checkHornActive → s.dsc.status = true →
    s.lvg.lvCount = 0 → s.lvg.lvSticky = false → 2 ≤ s.par.lvConfirm →
    FreshTicks s.par s.lvg.lastTick ins → AllCommand .lvgUpdate ins → Alternating true ins →
    ins.length ≤ max s.lvg.guardTimer 1 →
    ∃ t, drive ins s = .next t ∧ t.lvg.lvCount = ins.length % 2 ∧ t.lvg.lvSticky = false

/-! ## Configuration and programs -/

/-- The parameter records the model accepts are exactly those of R3 to R6 whose timeouts the timers can hold.  The bound on the
timeouts is the model's reading of R5 beside the timers' range (log entry 5). -/
def Obligations.AcceptedConfigurationsAreTheSpecs : Prop :=
  ∀ p : Params, (∃ c, Config.ofParams p = .ok c ∧ c.params = p) ↔
    (1 ≤ p.debPress ∧ p.debPress < p.debMax - p.debRelease ∧ 1 ≤ p.debRelease ∧ p.debSeed ≤ p.debMax) ∧
    (1 ≤ p.minFreq ∧ p.minFreq ≤ p.maxFreq ∧ p.maxFreq ≤ 65535 ∧ 1 ≤ p.prescaler ∧ 1 ≤ p.clockHz) ∧
    (1 ≤ p.lvConfirm ∧ p.lvConfirm ≤ p.lvCountMax) ∧
    (p.tKill ≤ 65535 ∧ p.tMaxHonk ≤ 65535 ∧ p.tCommitInit ≤ 65535 ∧ p.tCommit ≤ 65535 ∧ p.tRebeepWait ≤ 65535) ∧
    (∀ id : PatternId, ∃ n, n < 2 ^ p.idxW ∧
      (∃ w, p.patternRom[p.patternBase.get id + n]? = some w ∧ stepDuration w = 0#16) ∧
      ∀ m < n, ∃ w, p.patternRom[p.patternBase.get id + m]? = some w ∧ stepDuration w ≠ 0#16)

/-- `TPOLL n` is `n` times a tick and a `POLL`, on inputs otherwise unchanged: R79. -/
def Obligations.TpollIsTicksAndPolls : Prop :=
  ∀ (p : Params) (n : Nat) (i : Inputs),
    (tpollInputs p n i).2.length = n ∧
    ∀ (k : Nat) (j : Inputs), (tpollInputs p n i).2[k]? = some j →
      j = { i with cmd := 0x10000000, tick := (i.tick + (k + 1)) % 2 ^ p.tickW }
end

