-- ==== Sys2Proof/Laws/State.lean ====
section
/-! SUPPORT. For every state update one lemma per field of State, true by rfl, so that no later proof unfolds a record
update. -/

namespace Sys2Proof.Machine

variable (s : State)

@[simp] theorem State.emit_dsc (e : Event) : (s.emit e).dsc = s.dsc := rfl
@[simp] theorem State.emit_tse (e : Event) : (s.emit e).tse = s.tse := rfl
@[simp] theorem State.emit_out (e : Event) : (s.emit e).out = s.out := rfl
@[simp] theorem State.emit_lvg (e : Event) : (s.emit e).lvg = s.lvg := rfl
@[simp] theorem State.emit_config (e : Event) : (s.emit e).config = s.config := rfl
@[simp] theorem State.emit_pins (e : Event) : (s.emit e).pins = s.pins := rfl
@[simp] theorem State.emit_upcoming (e : Event) : (s.emit e).upcoming = s.upcoming := rfl
@[simp] theorem State.emit_result (e : Event) : (s.emit e).result = s.result := rfl
@[simp] theorem State.emit_events (e : Event) : (s.emit e).events = s.events ++ [e] := rfl
@[simp] theorem State.emit_tickIn (e : Event) : (s.emit e).tickIn = s.tickIn := rfl
@[simp] theorem State.emit_switchActive (e : Event) : (s.emit e).switchActive = s.switchActive := rfl
@[simp] theorem State.emit_par (e : Event) : (s.emit e).par = s.par := rfl

@[simp] theorem State.programTone_dsc (t : Tone) : (s.programTone t).dsc = s.dsc := rfl
@[simp] theorem State.programTone_tse (t : Tone) : (s.programTone t).tse = s.tse := rfl
@[simp] theorem State.programTone_out (t : Tone) : (s.programTone t).out = { s.out with tone := t } := rfl
@[simp] theorem State.programTone_lvg (t : Tone) : (s.programTone t).lvg = s.lvg := rfl
@[simp] theorem State.programTone_config (t : Tone) : (s.programTone t).config = s.config := rfl
@[simp] theorem State.programTone_pins (t : Tone) : (s.programTone t).pins = s.pins := rfl
@[simp] theorem State.programTone_upcoming (t : Tone) : (s.programTone t).upcoming = s.upcoming := rfl
@[simp] theorem State.programTone_result (t : Tone) : (s.programTone t).result = s.result := rfl
@[simp] theorem State.programTone_events (t : Tone) : (s.programTone t).events = s.events ++ [.programTone t] := rfl
@[simp] theorem State.programTone_tickIn (t : Tone) : (s.programTone t).tickIn = s.tickIn := rfl
@[simp] theorem State.programTone_switchActive (t : Tone) : (s.programTone t).switchActive = s.switchActive := rfl
@[simp] theorem State.programTone_par (t : Tone) : (s.programTone t).par = s.par := rfl

@[simp] theorem State.setHorn_dsc (b : Bool) : (s.setHorn b).dsc = s.dsc := rfl
@[simp] theorem State.setHorn_tse (b : Bool) : (s.setHorn b).tse = s.tse := rfl
@[simp] theorem State.setHorn_out (b : Bool) : (s.setHorn b).out = { s.out with hornOut := b } := rfl
@[simp] theorem State.setHorn_lvg (b : Bool) : (s.setHorn b).lvg = s.lvg := rfl
@[simp] theorem State.setHorn_config (b : Bool) : (s.setHorn b).config = s.config := rfl
@[simp] theorem State.setHorn_pins (b : Bool) : (s.setHorn b).pins = s.pins := rfl
@[simp] theorem State.setHorn_upcoming (b : Bool) : (s.setHorn b).upcoming = s.upcoming := rfl
@[simp] theorem State.setHorn_result (b : Bool) : (s.setHorn b).result = s.result := rfl
@[simp] theorem State.setHorn_events (b : Bool) : (s.setHorn b).events = s.events ++ [.setHorn b] := rfl
@[simp] theorem State.setHorn_tickIn (b : Bool) : (s.setHorn b).tickIn = s.tickIn := rfl
@[simp] theorem State.setHorn_switchActive (b : Bool) : (s.setHorn b).switchActive = s.switchActive := rfl
@[simp] theorem State.setHorn_par (b : Bool) : (s.setHorn b).par = s.par := rfl

@[simp] theorem State.setRed_dsc : s.setRed.dsc = s.dsc := rfl
@[simp] theorem State.setRed_tse : s.setRed.tse = s.tse := rfl
@[simp] theorem State.setRed_out : s.setRed.out = { s.out with indRed := true } := rfl
@[simp] theorem State.setRed_lvg : s.setRed.lvg = s.lvg := rfl
@[simp] theorem State.setRed_config : s.setRed.config = s.config := rfl
@[simp] theorem State.setRed_pins : s.setRed.pins = s.pins := rfl
@[simp] theorem State.setRed_upcoming : s.setRed.upcoming = s.upcoming := rfl
@[simp] theorem State.setRed_result : s.setRed.result = s.result := rfl
@[simp] theorem State.setRed_events : s.setRed.events = s.events ++ [.setIndicator .red true] := rfl
@[simp] theorem State.setRed_tickIn : s.setRed.tickIn = s.tickIn := rfl
@[simp] theorem State.setRed_switchActive : s.setRed.switchActive = s.switchActive := rfl
@[simp] theorem State.setRed_par : s.setRed.par = s.par := rfl

@[simp] theorem State.setCmp_dsc (c : CmpLevel) : (s.setCmp c).dsc = s.dsc := rfl
@[simp] theorem State.setCmp_tse (c : CmpLevel) : (s.setCmp c).tse = s.tse := rfl
@[simp] theorem State.setCmp_out (c : CmpLevel) : (s.setCmp c).out = { s.out with cmpSel := c } := rfl
@[simp] theorem State.setCmp_lvg (c : CmpLevel) : (s.setCmp c).lvg = s.lvg := rfl
@[simp] theorem State.setCmp_config (c : CmpLevel) : (s.setCmp c).config = s.config := rfl
@[simp] theorem State.setCmp_pins (c : CmpLevel) : (s.setCmp c).pins = s.pins := rfl
@[simp] theorem State.setCmp_upcoming (c : CmpLevel) : (s.setCmp c).upcoming = s.upcoming := rfl
@[simp] theorem State.setCmp_result (c : CmpLevel) : (s.setCmp c).result = s.result := rfl
@[simp] theorem State.setCmp_events (c : CmpLevel) : (s.setCmp c).events = s.events ++ [.setCmpThreshold c] := rfl
@[simp] theorem State.setCmp_tickIn (c : CmpLevel) : (s.setCmp c).tickIn = s.tickIn := rfl
@[simp] theorem State.setCmp_switchActive (c : CmpLevel) : (s.setCmp c).switchActive = s.switchActive := rfl
@[simp] theorem State.setCmp_par (c : CmpLevel) : (s.setCmp c).par = s.par := rfl

@[simp] theorem State.begin_dsc : s.begin.dsc = s.dsc := rfl
@[simp] theorem State.begin_tse : s.begin.tse = s.tse := rfl
@[simp] theorem State.begin_out : s.begin.out = s.out := rfl
@[simp] theorem State.begin_lvg : s.begin.lvg = s.lvg := rfl
@[simp] theorem State.begin_config : s.begin.config = s.config := rfl
@[simp] theorem State.begin_pins : s.begin.pins = s.pins := rfl
@[simp] theorem State.begin_upcoming : s.begin.upcoming = s.upcoming := rfl
@[simp] theorem State.begin_result : s.begin.result = Result.zero := rfl
@[simp] theorem State.begin_events : s.begin.events = [] := rfl
@[simp] theorem State.begin_tickIn : s.begin.tickIn = s.tickIn := rfl
@[simp] theorem State.begin_switchActive : s.begin.switchActive = s.switchActive := rfl
@[simp] theorem State.begin_par : s.begin.par = s.par := rfl

@[simp] theorem State.reservedCommand_dsc : s.reservedCommand.dsc = s.dsc := rfl
@[simp] theorem State.reservedCommand_tse : s.reservedCommand.tse = s.tse := rfl
@[simp] theorem State.reservedCommand_out : s.reservedCommand.out = s.out := rfl
@[simp] theorem State.reservedCommand_lvg : s.reservedCommand.lvg = s.lvg := rfl
@[simp] theorem State.reservedCommand_config : s.reservedCommand.config = s.config := rfl
@[simp] theorem State.reservedCommand_pins : s.reservedCommand.pins = s.pins := rfl
@[simp] theorem State.reservedCommand_upcoming : s.reservedCommand.upcoming = s.upcoming := rfl
@[simp] theorem State.reservedCommand_result : s.reservedCommand.result = { Result.zero with cmdErr := true } := rfl
@[simp] theorem State.reservedCommand_events : s.reservedCommand.events = [] := rfl
@[simp] theorem State.reservedCommand_tickIn : s.reservedCommand.tickIn = s.tickIn := rfl
@[simp] theorem State.reservedCommand_switchActive : s.reservedCommand.switchActive = s.switchActive := rfl
@[simp] theorem State.reservedCommand_par : s.reservedCommand.par = s.par := rfl

@[simp] theorem State.setResBool_dsc (b : Bool) : (s.setResBool b).dsc = s.dsc := rfl
@[simp] theorem State.setResBool_tse (b : Bool) : (s.setResBool b).tse = s.tse := rfl
@[simp] theorem State.setResBool_out (b : Bool) : (s.setResBool b).out = s.out := rfl
@[simp] theorem State.setResBool_lvg (b : Bool) : (s.setResBool b).lvg = s.lvg := rfl
@[simp] theorem State.setResBool_config (b : Bool) : (s.setResBool b).config = s.config := rfl
@[simp] theorem State.setResBool_pins (b : Bool) : (s.setResBool b).pins = s.pins := rfl
@[simp] theorem State.setResBool_upcoming (b : Bool) : (s.setResBool b).upcoming = s.upcoming := rfl
@[simp] theorem State.setResBool_result (b : Bool) : (s.setResBool b).result = { s.result with resBool := b } := rfl
@[simp] theorem State.setResBool_events (b : Bool) : (s.setResBool b).events = s.events := rfl
@[simp] theorem State.setResBool_tickIn (b : Bool) : (s.setResBool b).tickIn = s.tickIn := rfl
@[simp] theorem State.setResBool_switchActive (b : Bool) : (s.setResBool b).switchActive = s.switchActive := rfl
@[simp] theorem State.setResBool_par (b : Bool) : (s.setResBool b).par = s.par := rfl

@[simp] theorem State.setResTone_dsc (t : Tone) : (s.setResTone t).dsc = s.dsc := rfl
@[simp] theorem State.setResTone_tse (t : Tone) : (s.setResTone t).tse = s.tse := rfl
@[simp] theorem State.setResTone_out (t : Tone) : (s.setResTone t).out = s.out := rfl
@[simp] theorem State.setResTone_lvg (t : Tone) : (s.setResTone t).lvg = s.lvg := rfl
@[simp] theorem State.setResTone_config (t : Tone) : (s.setResTone t).config = s.config := rfl
@[simp] theorem State.setResTone_pins (t : Tone) : (s.setResTone t).pins = s.pins := rfl
@[simp] theorem State.setResTone_upcoming (t : Tone) : (s.setResTone t).upcoming = s.upcoming := rfl
@[simp] theorem State.setResTone_result (t : Tone) :
    (s.setResTone t).result =
      { s.result with resPeriod := t.period, resCompare := t.compare } := rfl
@[simp] theorem State.setResTone_events (t : Tone) : (s.setResTone t).events = s.events := rfl
@[simp] theorem State.setResTone_tickIn (t : Tone) : (s.setResTone t).tickIn = s.tickIn := rfl
@[simp] theorem State.setResTone_switchActive (t : Tone) : (s.setResTone t).switchActive = s.switchActive := rfl
@[simp] theorem State.setResTone_par (t : Tone) : (s.setResTone t).par = s.par := rfl

@[simp] theorem State.armGuardTimer_dsc (v : Nat) : (s.armGuardTimer v).dsc = s.dsc := rfl
@[simp] theorem State.armGuardTimer_tse (v : Nat) : (s.armGuardTimer v).tse = s.tse := rfl
@[simp] theorem State.armGuardTimer_out (v : Nat) : (s.armGuardTimer v).out = s.out := rfl
@[simp] theorem State.armGuardTimer_lvg (v : Nat) : (s.armGuardTimer v).lvg = { s.lvg with guardTimer := v } := rfl
@[simp] theorem State.armGuardTimer_config (v : Nat) : (s.armGuardTimer v).config = s.config := rfl
@[simp] theorem State.armGuardTimer_pins (v : Nat) : (s.armGuardTimer v).pins = s.pins := rfl
@[simp] theorem State.armGuardTimer_upcoming (v : Nat) : (s.armGuardTimer v).upcoming = s.upcoming := rfl
@[simp] theorem State.armGuardTimer_result (v : Nat) : (s.armGuardTimer v).result = s.result := rfl
@[simp] theorem State.armGuardTimer_events (v : Nat) : (s.armGuardTimer v).events = s.events := rfl
@[simp] theorem State.armGuardTimer_tickIn (v : Nat) : (s.armGuardTimer v).tickIn = s.tickIn := rfl
@[simp] theorem State.armGuardTimer_switchActive (v : Nat) : (s.armGuardTimer v).switchActive = s.switchActive := rfl
@[simp] theorem State.armGuardTimer_par (v : Nat) : (s.armGuardTimer v).par = s.par := rfl

@[simp] theorem State.armCommitTimer_dsc (v : Nat) : (s.armCommitTimer v).dsc = s.dsc := rfl
@[simp] theorem State.armCommitTimer_tse (v : Nat) : (s.armCommitTimer v).tse = s.tse := rfl
@[simp] theorem State.armCommitTimer_out (v : Nat) : (s.armCommitTimer v).out = s.out := rfl
@[simp] theorem State.armCommitTimer_lvg (v : Nat) : (s.armCommitTimer v).lvg = { s.lvg with commitTimer := v } := rfl
@[simp] theorem State.armCommitTimer_config (v : Nat) : (s.armCommitTimer v).config = s.config := rfl
@[simp] theorem State.armCommitTimer_pins (v : Nat) : (s.armCommitTimer v).pins = s.pins := rfl
@[simp] theorem State.armCommitTimer_upcoming (v : Nat) : (s.armCommitTimer v).upcoming = s.upcoming := rfl
@[simp] theorem State.armCommitTimer_result (v : Nat) : (s.armCommitTimer v).result = s.result := rfl
@[simp] theorem State.armCommitTimer_events (v : Nat) : (s.armCommitTimer v).events = s.events := rfl
@[simp] theorem State.armCommitTimer_tickIn (v : Nat) : (s.armCommitTimer v).tickIn = s.tickIn := rfl
@[simp] theorem State.armCommitTimer_switchActive (v : Nat) : (s.armCommitTimer v).switchActive = s.switchActive := rfl
@[simp] theorem State.armCommitTimer_par (v : Nat) : (s.armCommitTimer v).par = s.par := rfl

@[simp] theorem State.countGuardTimer_dsc : s.countGuardTimer.dsc = s.dsc := rfl
@[simp] theorem State.countGuardTimer_tse : s.countGuardTimer.tse = s.tse := rfl
@[simp] theorem State.countGuardTimer_out : s.countGuardTimer.out = s.out := rfl
@[simp] theorem State.countGuardTimer_lvg :
    s.countGuardTimer.lvg =
      { s.lvg with guardTimer := satDec s.lvg.guardTimer } := rfl
@[simp] theorem State.countGuardTimer_config : s.countGuardTimer.config = s.config := rfl
@[simp] theorem State.countGuardTimer_pins : s.countGuardTimer.pins = s.pins := rfl
@[simp] theorem State.countGuardTimer_upcoming : s.countGuardTimer.upcoming = s.upcoming := rfl
@[simp] theorem State.countGuardTimer_result : s.countGuardTimer.result = s.result := rfl
@[simp] theorem State.countGuardTimer_events : s.countGuardTimer.events = s.events := rfl
@[simp] theorem State.countGuardTimer_tickIn : s.countGuardTimer.tickIn = s.tickIn := rfl
@[simp] theorem State.countGuardTimer_switchActive : s.countGuardTimer.switchActive = s.switchActive := rfl
@[simp] theorem State.countGuardTimer_par : s.countGuardTimer.par = s.par := rfl

@[simp] theorem State.countCommitTimer_dsc : s.countCommitTimer.dsc = s.dsc := rfl
@[simp] theorem State.countCommitTimer_tse : s.countCommitTimer.tse = s.tse := rfl
@[simp] theorem State.countCommitTimer_out : s.countCommitTimer.out = s.out := rfl
@[simp] theorem State.countCommitTimer_lvg :
    s.countCommitTimer.lvg =
      { s.lvg with commitTimer := satDec s.lvg.commitTimer } := rfl
@[simp] theorem State.countCommitTimer_config : s.countCommitTimer.config = s.config := rfl
@[simp] theorem State.countCommitTimer_pins : s.countCommitTimer.pins = s.pins := rfl
@[simp] theorem State.countCommitTimer_upcoming : s.countCommitTimer.upcoming = s.upcoming := rfl
@[simp] theorem State.countCommitTimer_result : s.countCommitTimer.result = s.result := rfl
@[simp] theorem State.countCommitTimer_events : s.countCommitTimer.events = s.events := rfl
@[simp] theorem State.countCommitTimer_tickIn : s.countCommitTimer.tickIn = s.tickIn := rfl
@[simp] theorem State.countCommitTimer_switchActive : s.countCommitTimer.switchActive = s.switchActive := rfl
@[simp] theorem State.countCommitTimer_par : s.countCommitTimer.par = s.par := rfl

@[simp] theorem State.selectPattern_dsc (p : PatternId) : (s.selectPattern p).dsc = s.dsc := rfl
@[simp] theorem State.selectPattern_tse (p : PatternId) : (s.selectPattern p).tse = s.tse := rfl
@[simp] theorem State.selectPattern_out (p : PatternId) : (s.selectPattern p).out = s.out := rfl
@[simp] theorem State.selectPattern_lvg (p : PatternId) :
    (s.selectPattern p).lvg =
      { s.lvg with selPattern := p } := rfl
@[simp] theorem State.selectPattern_config (p : PatternId) : (s.selectPattern p).config = s.config := rfl
@[simp] theorem State.selectPattern_pins (p : PatternId) : (s.selectPattern p).pins = s.pins := rfl
@[simp] theorem State.selectPattern_upcoming (p : PatternId) : (s.selectPattern p).upcoming = s.upcoming := rfl
@[simp] theorem State.selectPattern_result (p : PatternId) : (s.selectPattern p).result = s.result := rfl
@[simp] theorem State.selectPattern_events (p : PatternId) : (s.selectPattern p).events = s.events := rfl
@[simp] theorem State.selectPattern_tickIn (p : PatternId) : (s.selectPattern p).tickIn = s.tickIn := rfl
@[simp] theorem State.selectPattern_switchActive (p : PatternId) : (s.selectPattern p).switchActive = s.switchActive := rfl
@[simp] theorem State.selectPattern_par (p : PatternId) : (s.selectPattern p).par = s.par := rfl

@[simp] theorem State.goTo_dsc (g : GuardState) : (s.goTo g).dsc = s.dsc := rfl
@[simp] theorem State.goTo_tse (g : GuardState) : (s.goTo g).tse = s.tse := rfl
@[simp] theorem State.goTo_out (g : GuardState) : (s.goTo g).out = s.out := rfl
@[simp] theorem State.goTo_lvg (g : GuardState) : (s.goTo g).lvg = { s.lvg with state := g } := rfl
@[simp] theorem State.goTo_config (g : GuardState) : (s.goTo g).config = s.config := rfl
@[simp] theorem State.goTo_pins (g : GuardState) : (s.goTo g).pins = s.pins := rfl
@[simp] theorem State.goTo_upcoming (g : GuardState) : (s.goTo g).upcoming = s.upcoming := rfl
@[simp] theorem State.goTo_result (g : GuardState) : (s.goTo g).result = s.result := rfl
@[simp] theorem State.goTo_events (g : GuardState) : (s.goTo g).events = s.events := rfl
@[simp] theorem State.goTo_tickIn (g : GuardState) : (s.goTo g).tickIn = s.tickIn := rfl
@[simp] theorem State.goTo_switchActive (g : GuardState) : (s.goTo g).switchActive = s.switchActive := rfl
@[simp] theorem State.goTo_par (g : GuardState) : (s.goTo g).par = s.par := rfl

@[simp] theorem State.enterDead_dsc : s.enterDead.dsc = s.dsc := rfl
@[simp] theorem State.enterDead_tse : s.enterDead.tse = s.tse := rfl
@[simp] theorem State.enterDead_out : s.enterDead.out = s.out := rfl
@[simp] theorem State.enterDead_lvg : s.enterDead.lvg = { s.lvg with state := .dead } := rfl
@[simp] theorem State.enterDead_config : s.enterDead.config = s.config := rfl
@[simp] theorem State.enterDead_pins : s.enterDead.pins = s.pins := rfl
@[simp] theorem State.enterDead_upcoming : s.enterDead.upcoming = s.upcoming := rfl
@[simp] theorem State.enterDead_result : s.enterDead.result = s.result := rfl
@[simp] theorem State.enterDead_events : s.enterDead.events = s.events := rfl
@[simp] theorem State.enterDead_tickIn : s.enterDead.tickIn = s.tickIn := rfl
@[simp] theorem State.enterDead_switchActive : s.enterDead.switchActive = s.switchActive := rfl
@[simp] theorem State.enterDead_par : s.enterDead.par = s.par := rfl

@[simp] theorem State.setLvCount_dsc (v : Nat) : (s.setLvCount v).dsc = s.dsc := rfl
@[simp] theorem State.setLvCount_tse (v : Nat) : (s.setLvCount v).tse = s.tse := rfl
@[simp] theorem State.setLvCount_out (v : Nat) : (s.setLvCount v).out = s.out := rfl
@[simp] theorem State.setLvCount_lvg (v : Nat) : (s.setLvCount v).lvg = { s.lvg with lvCount := v } := rfl
@[simp] theorem State.setLvCount_config (v : Nat) : (s.setLvCount v).config = s.config := rfl
@[simp] theorem State.setLvCount_pins (v : Nat) : (s.setLvCount v).pins = s.pins := rfl
@[simp] theorem State.setLvCount_upcoming (v : Nat) : (s.setLvCount v).upcoming = s.upcoming := rfl
@[simp] theorem State.setLvCount_result (v : Nat) : (s.setLvCount v).result = s.result := rfl
@[simp] theorem State.setLvCount_events (v : Nat) : (s.setLvCount v).events = s.events := rfl
@[simp] theorem State.setLvCount_tickIn (v : Nat) : (s.setLvCount v).tickIn = s.tickIn := rfl
@[simp] theorem State.setLvCount_switchActive (v : Nat) : (s.setLvCount v).switchActive = s.switchActive := rfl
@[simp] theorem State.setLvCount_par (v : Nat) : (s.setLvCount v).par = s.par := rfl

@[simp] theorem State.setLvSticky_dsc (b : Bool) : (s.setLvSticky b).dsc = s.dsc := rfl
@[simp] theorem State.setLvSticky_tse (b : Bool) : (s.setLvSticky b).tse = s.tse := rfl
@[simp] theorem State.setLvSticky_out (b : Bool) : (s.setLvSticky b).out = s.out := rfl
@[simp] theorem State.setLvSticky_lvg (b : Bool) : (s.setLvSticky b).lvg = { s.lvg with lvSticky := b } := rfl
@[simp] theorem State.setLvSticky_config (b : Bool) : (s.setLvSticky b).config = s.config := rfl
@[simp] theorem State.setLvSticky_pins (b : Bool) : (s.setLvSticky b).pins = s.pins := rfl
@[simp] theorem State.setLvSticky_upcoming (b : Bool) : (s.setLvSticky b).upcoming = s.upcoming := rfl
@[simp] theorem State.setLvSticky_result (b : Bool) : (s.setLvSticky b).result = s.result := rfl
@[simp] theorem State.setLvSticky_events (b : Bool) : (s.setLvSticky b).events = s.events := rfl
@[simp] theorem State.setLvSticky_tickIn (b : Bool) : (s.setLvSticky b).tickIn = s.tickIn := rfl
@[simp] theorem State.setLvSticky_switchActive (b : Bool) : (s.setLvSticky b).switchActive = s.switchActive := rfl
@[simp] theorem State.setLvSticky_par (b : Bool) : (s.setLvSticky b).par = s.par := rfl

@[simp] theorem State.takeGuardTick_dsc : s.takeGuardTick.dsc = s.dsc := rfl
@[simp] theorem State.takeGuardTick_tse : s.takeGuardTick.tse = s.tse := rfl
@[simp] theorem State.takeGuardTick_out : s.takeGuardTick.out = s.out := rfl
@[simp] theorem State.takeGuardTick_lvg : s.takeGuardTick.lvg = { s.lvg with lastTick := s.tickIn } := rfl
@[simp] theorem State.takeGuardTick_config : s.takeGuardTick.config = s.config := rfl
@[simp] theorem State.takeGuardTick_pins : s.takeGuardTick.pins = s.pins := rfl
@[simp] theorem State.takeGuardTick_upcoming : s.takeGuardTick.upcoming = s.upcoming := rfl
@[simp] theorem State.takeGuardTick_result : s.takeGuardTick.result = s.result := rfl
@[simp] theorem State.takeGuardTick_events : s.takeGuardTick.events = s.events := rfl
@[simp] theorem State.takeGuardTick_tickIn : s.takeGuardTick.tickIn = s.tickIn := rfl
@[simp] theorem State.takeGuardTick_switchActive : s.takeGuardTick.switchActive = s.switchActive := rfl
@[simp] theorem State.takeGuardTick_par : s.takeGuardTick.par = s.par := rfl

@[simp] theorem State.setSwStatus_dsc (b : Bool) : (s.setSwStatus b).dsc = { s.dsc with status := b } := rfl
@[simp] theorem State.setSwStatus_tse (b : Bool) : (s.setSwStatus b).tse = s.tse := rfl
@[simp] theorem State.setSwStatus_out (b : Bool) : (s.setSwStatus b).out = s.out := rfl
@[simp] theorem State.setSwStatus_lvg (b : Bool) : (s.setSwStatus b).lvg = s.lvg := rfl
@[simp] theorem State.setSwStatus_config (b : Bool) : (s.setSwStatus b).config = s.config := rfl
@[simp] theorem State.setSwStatus_pins (b : Bool) : (s.setSwStatus b).pins = s.pins := rfl
@[simp] theorem State.setSwStatus_upcoming (b : Bool) : (s.setSwStatus b).upcoming = s.upcoming := rfl
@[simp] theorem State.setSwStatus_result (b : Bool) : (s.setSwStatus b).result = s.result := rfl
@[simp] theorem State.setSwStatus_events (b : Bool) : (s.setSwStatus b).events = s.events := rfl
@[simp] theorem State.setSwStatus_tickIn (b : Bool) : (s.setSwStatus b).tickIn = s.tickIn := rfl
@[simp] theorem State.setSwStatus_switchActive (b : Bool) : (s.setSwStatus b).switchActive = s.switchActive := rfl
@[simp] theorem State.setSwStatus_par (b : Bool) : (s.setSwStatus b).par = s.par := rfl

@[simp] theorem State.setSwCount_dsc (v : Nat) : (s.setSwCount v).dsc = { s.dsc with count := v } := rfl
@[simp] theorem State.setSwCount_tse (v : Nat) : (s.setSwCount v).tse = s.tse := rfl
@[simp] theorem State.setSwCount_out (v : Nat) : (s.setSwCount v).out = s.out := rfl
@[simp] theorem State.setSwCount_lvg (v : Nat) : (s.setSwCount v).lvg = s.lvg := rfl
@[simp] theorem State.setSwCount_config (v : Nat) : (s.setSwCount v).config = s.config := rfl
@[simp] theorem State.setSwCount_pins (v : Nat) : (s.setSwCount v).pins = s.pins := rfl
@[simp] theorem State.setSwCount_upcoming (v : Nat) : (s.setSwCount v).upcoming = s.upcoming := rfl
@[simp] theorem State.setSwCount_result (v : Nat) : (s.setSwCount v).result = s.result := rfl
@[simp] theorem State.setSwCount_events (v : Nat) : (s.setSwCount v).events = s.events := rfl
@[simp] theorem State.setSwCount_tickIn (v : Nat) : (s.setSwCount v).tickIn = s.tickIn := rfl
@[simp] theorem State.setSwCount_switchActive (v : Nat) : (s.setSwCount v).switchActive = s.switchActive := rfl
@[simp] theorem State.setSwCount_par (v : Nat) : (s.setSwCount v).par = s.par := rfl

@[simp] theorem State.takeSwTick_dsc : s.takeSwTick.dsc = { s.dsc with lastTick := s.tickIn } := rfl
@[simp] theorem State.takeSwTick_tse : s.takeSwTick.tse = s.tse := rfl
@[simp] theorem State.takeSwTick_out : s.takeSwTick.out = s.out := rfl
@[simp] theorem State.takeSwTick_lvg : s.takeSwTick.lvg = s.lvg := rfl
@[simp] theorem State.takeSwTick_config : s.takeSwTick.config = s.config := rfl
@[simp] theorem State.takeSwTick_pins : s.takeSwTick.pins = s.pins := rfl
@[simp] theorem State.takeSwTick_upcoming : s.takeSwTick.upcoming = s.upcoming := rfl
@[simp] theorem State.takeSwTick_result : s.takeSwTick.result = s.result := rfl
@[simp] theorem State.takeSwTick_events : s.takeSwTick.events = s.events := rfl
@[simp] theorem State.takeSwTick_tickIn : s.takeSwTick.tickIn = s.tickIn := rfl
@[simp] theorem State.takeSwTick_switchActive : s.takeSwTick.switchActive = s.switchActive := rfl
@[simp] theorem State.takeSwTick_par : s.takeSwTick.par = s.par := rfl

@[simp] theorem State.swClear_dsc : s.swClear.dsc = { s.dsc with status := false } := rfl
@[simp] theorem State.swClear_tse : s.swClear.tse = s.tse := rfl
@[simp] theorem State.swClear_out : s.swClear.out = s.out := rfl
@[simp] theorem State.swClear_lvg : s.swClear.lvg = s.lvg := rfl
@[simp] theorem State.swClear_config : s.swClear.config = s.config := rfl
@[simp] theorem State.swClear_pins : s.swClear.pins = s.pins := rfl
@[simp] theorem State.swClear_upcoming : s.swClear.upcoming = s.upcoming := rfl
@[simp] theorem State.swClear_result : s.swClear.result = s.result := rfl
@[simp] theorem State.swClear_events : s.swClear.events = s.events := rfl
@[simp] theorem State.swClear_tickIn : s.swClear.tickIn = s.tickIn := rfl
@[simp] theorem State.swClear_switchActive : s.swClear.switchActive = s.switchActive := rfl
@[simp] theorem State.swClear_par : s.swClear.par = s.par := rfl

@[simp] theorem State.setSeqActive_dsc (b : Bool) : (s.setSeqActive b).dsc = s.dsc := rfl
@[simp] theorem State.setSeqActive_tse (b : Bool) : (s.setSeqActive b).tse = { s.tse with active := b } := rfl
@[simp] theorem State.setSeqActive_out (b : Bool) : (s.setSeqActive b).out = s.out := rfl
@[simp] theorem State.setSeqActive_lvg (b : Bool) : (s.setSeqActive b).lvg = s.lvg := rfl
@[simp] theorem State.setSeqActive_config (b : Bool) : (s.setSeqActive b).config = s.config := rfl
@[simp] theorem State.setSeqActive_pins (b : Bool) : (s.setSeqActive b).pins = s.pins := rfl
@[simp] theorem State.setSeqActive_upcoming (b : Bool) : (s.setSeqActive b).upcoming = s.upcoming := rfl
@[simp] theorem State.setSeqActive_result (b : Bool) : (s.setSeqActive b).result = s.result := rfl
@[simp] theorem State.setSeqActive_events (b : Bool) : (s.setSeqActive b).events = s.events := rfl
@[simp] theorem State.setSeqActive_tickIn (b : Bool) : (s.setSeqActive b).tickIn = s.tickIn := rfl
@[simp] theorem State.setSeqActive_switchActive (b : Bool) : (s.setSeqActive b).switchActive = s.switchActive := rfl
@[simp] theorem State.setSeqActive_par (b : Bool) : (s.setSeqActive b).par = s.par := rfl

@[simp] theorem State.reachEnd_dsc : s.reachEnd.dsc = s.dsc := rfl
@[simp] theorem State.reachEnd_tse : s.reachEnd.tse = { s.tse with active := false } := rfl
@[simp] theorem State.reachEnd_out : s.reachEnd.out = s.out := rfl
@[simp] theorem State.reachEnd_lvg : s.reachEnd.lvg = s.lvg := rfl
@[simp] theorem State.reachEnd_config : s.reachEnd.config = s.config := rfl
@[simp] theorem State.reachEnd_pins : s.reachEnd.pins = s.pins := rfl
@[simp] theorem State.reachEnd_upcoming : s.reachEnd.upcoming = s.upcoming := rfl
@[simp] theorem State.reachEnd_result : s.reachEnd.result = s.result := rfl
@[simp] theorem State.reachEnd_events : s.reachEnd.events = s.events := rfl
@[simp] theorem State.reachEnd_tickIn : s.reachEnd.tickIn = s.tickIn := rfl
@[simp] theorem State.reachEnd_switchActive : s.reachEnd.switchActive = s.switchActive := rfl
@[simp] theorem State.reachEnd_par : s.reachEnd.par = s.par := rfl

@[simp] theorem State.seqAbort_dsc : s.seqAbort.dsc = s.dsc := rfl
@[simp] theorem State.seqAbort_tse : s.seqAbort.tse = { s.tse with active := false } := rfl
@[simp] theorem State.seqAbort_out : s.seqAbort.out = s.out := rfl
@[simp] theorem State.seqAbort_lvg : s.seqAbort.lvg = s.lvg := rfl
@[simp] theorem State.seqAbort_config : s.seqAbort.config = s.config := rfl
@[simp] theorem State.seqAbort_pins : s.seqAbort.pins = s.pins := rfl
@[simp] theorem State.seqAbort_upcoming : s.seqAbort.upcoming = s.upcoming := rfl
@[simp] theorem State.seqAbort_result : s.seqAbort.result = s.result := rfl
@[simp] theorem State.seqAbort_events : s.seqAbort.events = s.events := rfl
@[simp] theorem State.seqAbort_tickIn : s.seqAbort.tickIn = s.tickIn := rfl
@[simp] theorem State.seqAbort_switchActive : s.seqAbort.switchActive = s.switchActive := rfl
@[simp] theorem State.seqAbort_par : s.seqAbort.par = s.par := rfl

@[simp] theorem State.takeSeqTick_dsc : s.takeSeqTick.dsc = s.dsc := rfl
@[simp] theorem State.takeSeqTick_tse : s.takeSeqTick.tse = { s.tse with lastTick := s.tickIn } := rfl
@[simp] theorem State.takeSeqTick_out : s.takeSeqTick.out = s.out := rfl
@[simp] theorem State.takeSeqTick_lvg : s.takeSeqTick.lvg = s.lvg := rfl
@[simp] theorem State.takeSeqTick_config : s.takeSeqTick.config = s.config := rfl
@[simp] theorem State.takeSeqTick_pins : s.takeSeqTick.pins = s.pins := rfl
@[simp] theorem State.takeSeqTick_upcoming : s.takeSeqTick.upcoming = s.upcoming := rfl
@[simp] theorem State.takeSeqTick_result : s.takeSeqTick.result = s.result := rfl
@[simp] theorem State.takeSeqTick_events : s.takeSeqTick.events = s.events := rfl
@[simp] theorem State.takeSeqTick_tickIn : s.takeSeqTick.tickIn = s.tickIn := rfl
@[simp] theorem State.takeSeqTick_switchActive : s.takeSeqTick.switchActive = s.switchActive := rfl
@[simp] theorem State.takeSeqTick_par : s.takeSeqTick.par = s.par := rfl

@[simp] theorem State.advanceIndex_dsc : s.advanceIndex.dsc = s.dsc := rfl
@[simp] theorem State.advanceIndex_tse : s.advanceIndex.tse = { s.tse with index := s.tse.index + 1 } := rfl
@[simp] theorem State.advanceIndex_out : s.advanceIndex.out = s.out := rfl
@[simp] theorem State.advanceIndex_lvg : s.advanceIndex.lvg = s.lvg := rfl
@[simp] theorem State.advanceIndex_config : s.advanceIndex.config = s.config := rfl
@[simp] theorem State.advanceIndex_pins : s.advanceIndex.pins = s.pins := rfl
@[simp] theorem State.advanceIndex_upcoming : s.advanceIndex.upcoming = s.upcoming := rfl
@[simp] theorem State.advanceIndex_result : s.advanceIndex.result = s.result := rfl
@[simp] theorem State.advanceIndex_events : s.advanceIndex.events = s.events := rfl
@[simp] theorem State.advanceIndex_tickIn : s.advanceIndex.tickIn = s.tickIn := rfl
@[simp] theorem State.advanceIndex_switchActive : s.advanceIndex.switchActive = s.switchActive := rfl
@[simp] theorem State.advanceIndex_par : s.advanceIndex.par = s.par := rfl

@[simp] theorem State.countStep_dsc : s.countStep.dsc = s.dsc := rfl
@[simp] theorem State.countStep_tse : s.countStep.tse = { s.tse with remaining := s.tse.remaining - 1 } := rfl
@[simp] theorem State.countStep_out : s.countStep.out = s.out := rfl
@[simp] theorem State.countStep_lvg : s.countStep.lvg = s.lvg := rfl
@[simp] theorem State.countStep_config : s.countStep.config = s.config := rfl
@[simp] theorem State.countStep_pins : s.countStep.pins = s.pins := rfl
@[simp] theorem State.countStep_upcoming : s.countStep.upcoming = s.upcoming := rfl
@[simp] theorem State.countStep_result : s.countStep.result = s.result := rfl
@[simp] theorem State.countStep_events : s.countStep.events = s.events := rfl
@[simp] theorem State.countStep_tickIn : s.countStep.tickIn = s.tickIn := rfl
@[simp] theorem State.countStep_switchActive : s.countStep.switchActive = s.switchActive := rfl
@[simp] theorem State.countStep_par : s.countStep.par = s.par := rfl

@[simp] theorem State.startPattern_dsc (p : PatternId) (d : BitVec 16) : (s.startPattern p d).dsc = s.dsc := rfl
@[simp] theorem State.startPattern_tse (p : PatternId) (d : BitVec 16) :
    (s.startPattern p d).tse =
      ⟨p, 0, d.toNat, s.tickIn, true⟩ := rfl
@[simp] theorem State.startPattern_out (p : PatternId) (d : BitVec 16) : (s.startPattern p d).out = s.out := rfl
@[simp] theorem State.startPattern_lvg (p : PatternId) (d : BitVec 16) : (s.startPattern p d).lvg = s.lvg := rfl
@[simp] theorem State.startPattern_config (p : PatternId) (d : BitVec 16) :
    (s.startPattern p d).config =
      s.config := rfl
@[simp] theorem State.startPattern_pins (p : PatternId) (d : BitVec 16) : (s.startPattern p d).pins = s.pins := rfl
@[simp] theorem State.startPattern_upcoming (p : PatternId) (d : BitVec 16) :
    (s.startPattern p d).upcoming =
      s.upcoming := rfl
@[simp] theorem State.startPattern_result (p : PatternId) (d : BitVec 16) :
    (s.startPattern p d).result =
      s.result := rfl
@[simp] theorem State.startPattern_events (p : PatternId) (d : BitVec 16) :
    (s.startPattern p d).events =
      s.events := rfl
@[simp] theorem State.startPattern_tickIn (p : PatternId) (d : BitVec 16) : (s.startPattern p d).tickIn = s.tickIn := rfl
@[simp] theorem State.startPattern_switchActive (p : PatternId) (d : BitVec 16) : (s.startPattern p d).switchActive = s.switchActive := rfl
@[simp] theorem State.startPattern_par (p : PatternId) (d : BitVec 16) : (s.startPattern p d).par = s.par := rfl

@[simp] theorem State.enterStep_dsc (d f : BitVec 16) (u : BitVec 8) : (s.enterStep d f u).dsc = s.dsc := rfl
@[simp] theorem State.enterStep_tse (d f : BitVec 16) (u : BitVec 8) :
    (s.enterStep d f u).tse =
      { s.tse with remaining := d.toNat } := rfl
@[simp] theorem State.enterStep_out (d f : BitVec 16) (u : BitVec 8) :
    (s.enterStep d f u).out =
      { s.out with tone := pwmCalc s.par f u } := rfl
@[simp] theorem State.enterStep_lvg (d f : BitVec 16) (u : BitVec 8) : (s.enterStep d f u).lvg = s.lvg := rfl
@[simp] theorem State.enterStep_config (d f : BitVec 16) (u : BitVec 8) : (s.enterStep d f u).config = s.config := rfl
@[simp] theorem State.enterStep_pins (d f : BitVec 16) (u : BitVec 8) : (s.enterStep d f u).pins = s.pins := rfl
@[simp] theorem State.enterStep_upcoming (d f : BitVec 16) (u : BitVec 8) :
    (s.enterStep d f u).upcoming =
      s.upcoming := rfl
@[simp] theorem State.enterStep_result (d f : BitVec 16) (u : BitVec 8) : (s.enterStep d f u).result = s.result := rfl
@[simp] theorem State.enterStep_events (d f : BitVec 16) (u : BitVec 8) :
    (s.enterStep d f u).events =
      s.events ++ [.programTone (pwmCalc s.par f u)] := rfl
@[simp] theorem State.enterStep_tickIn (d f : BitVec 16) (u : BitVec 8) : (s.enterStep d f u).tickIn = s.tickIn := rfl
@[simp] theorem State.enterStep_switchActive (d f : BitVec 16) (u : BitVec 8) : (s.enterStep d f u).switchActive = s.switchActive := rfl
@[simp] theorem State.enterStep_par (d f : BitVec 16) (u : BitVec 8) : (s.enterStep d f u).par = s.par := rfl

@[simp] theorem State.hornOff_dsc : s.hornOff.dsc = s.dsc := rfl
@[simp] theorem State.hornOff_tse : s.hornOff.tse = s.tse := rfl
@[simp] theorem State.hornOff_out :
    s.hornOff.out =
      { s.out with hornOut := false, tone := ⟨s.out.tone.period, 0⟩ } := rfl
@[simp] theorem State.hornOff_lvg : s.hornOff.lvg = s.lvg := rfl
@[simp] theorem State.hornOff_config : s.hornOff.config = s.config := rfl
@[simp] theorem State.hornOff_pins : s.hornOff.pins = s.pins := rfl
@[simp] theorem State.hornOff_upcoming : s.hornOff.upcoming = s.upcoming := rfl
@[simp] theorem State.hornOff_result : s.hornOff.result = s.result := rfl
@[simp] theorem State.hornOff_events :
    s.hornOff.events =
      s.events ++ [.setHorn false] ++ [.programTone ⟨s.out.tone.period, 0⟩] := rfl
@[simp] theorem State.hornOff_tickIn : s.hornOff.tickIn = s.tickIn := rfl
@[simp] theorem State.hornOff_switchActive : s.hornOff.switchActive = s.switchActive := rfl
@[simp] theorem State.hornOff_par : s.hornOff.par = s.par := rfl

@[simp] theorem State.enterActive_dsc : s.enterActive.dsc = s.dsc := rfl
@[simp] theorem State.enterActive_tse : s.enterActive.tse = s.tse := rfl
@[simp] theorem State.enterActive_out : s.enterActive.out = s.out := rfl
@[simp] theorem State.enterActive_lvg :
    s.enterActive.lvg =
      { s.lvg with guardTimer := s.par.tMaxHonk, commitTimer := s.par.tCommit, selPattern := releasePattern s.pins.configMode, state := .checkHornActive } := rfl
@[simp] theorem State.enterActive_config : s.enterActive.config = s.config := rfl
@[simp] theorem State.enterActive_pins : s.enterActive.pins = s.pins := rfl
@[simp] theorem State.enterActive_upcoming : s.enterActive.upcoming = s.upcoming := rfl
@[simp] theorem State.enterActive_result : s.enterActive.result = s.result := rfl
@[simp] theorem State.enterActive_events : s.enterActive.events = s.events := rfl
@[simp] theorem State.enterActive_tickIn : s.enterActive.tickIn = s.tickIn := rfl
@[simp] theorem State.enterActive_switchActive : s.enterActive.switchActive = s.switchActive := rfl
@[simp] theorem State.enterActive_par : s.enterActive.par = s.par := rfl

@[simp] theorem State.withCommand_dsc (w : CommandWord) : (s.withCommand w).dsc = s.dsc := rfl
@[simp] theorem State.withCommand_tse (w : CommandWord) : (s.withCommand w).tse = s.tse := rfl
@[simp] theorem State.withCommand_out (w : CommandWord) : (s.withCommand w).out = s.out := rfl
@[simp] theorem State.withCommand_lvg (w : CommandWord) : (s.withCommand w).lvg = s.lvg := rfl
@[simp] theorem State.withCommand_config (w : CommandWord) : (s.withCommand w).config = s.config := rfl
@[simp] theorem State.withCommand_pins (w : CommandWord) : (s.withCommand w).pins = { s.pins with cmd := w } := rfl
@[simp] theorem State.withCommand_upcoming (w : CommandWord) : (s.withCommand w).upcoming = s.upcoming := rfl
@[simp] theorem State.withCommand_result (w : CommandWord) : (s.withCommand w).result = s.result := rfl
@[simp] theorem State.withCommand_events (w : CommandWord) : (s.withCommand w).events = s.events := rfl
@[simp] theorem State.withCommand_par (w : CommandWord) : (s.withCommand w).par = s.par := rfl

@[simp] theorem State.withPins_dsc (i : Inputs) : (s.withPins i).dsc = s.dsc := rfl
@[simp] theorem State.withPins_tse (i : Inputs) : (s.withPins i).tse = s.tse := rfl
@[simp] theorem State.withPins_out (i : Inputs) : (s.withPins i).out = s.out := rfl
@[simp] theorem State.withPins_lvg (i : Inputs) : (s.withPins i).lvg = s.lvg := rfl
@[simp] theorem State.withPins_config (i : Inputs) : (s.withPins i).config = s.config := rfl
@[simp] theorem State.withPins_pins (i : Inputs) : (s.withPins i).pins = i := rfl
@[simp] theorem State.withPins_upcoming (i : Inputs) : (s.withPins i).upcoming = [] := rfl
@[simp] theorem State.withPins_result (i : Inputs) : (s.withPins i).result = s.result := rfl
@[simp] theorem State.withPins_events (i : Inputs) : (s.withPins i).events = s.events := rfl
@[simp] theorem State.withPins_par (i : Inputs) : (s.withPins i).par = s.par := rfl

@[simp] theorem State.withTick_dsc (n : Nat) : (s.withTick n).dsc = s.dsc := rfl
@[simp] theorem State.withTick_tse (n : Nat) : (s.withTick n).tse = s.tse := rfl
@[simp] theorem State.withTick_out (n : Nat) : (s.withTick n).out = s.out := rfl
@[simp] theorem State.withTick_lvg (n : Nat) : (s.withTick n).lvg = s.lvg := rfl
@[simp] theorem State.withTick_config (n : Nat) : (s.withTick n).config = s.config := rfl
@[simp] theorem State.withTick_pins (n : Nat) : (s.withTick n).pins = { s.pins with tick := n } := rfl
@[simp] theorem State.withTick_upcoming (n : Nat) : (s.withTick n).upcoming = s.upcoming := rfl
@[simp] theorem State.withTick_result (n : Nat) : (s.withTick n).result = s.result := rfl
@[simp] theorem State.withTick_events (n : Nat) : (s.withTick n).events = s.events := rfl
@[simp] theorem State.withTick_par (n : Nat) : (s.withTick n).par = s.par := rfl

end Sys2Proof.Machine
end

