-- ==== Sys2Proof/Laws/Ops.lean ====
section
/-! SUPPORT. For each shared operation, once, everything it can do. -/

namespace Sys2Proof.Machine

/-! ## Saturating steps and outcomes -/

@[simp] theorem satDec_eq (v : Nat) : satDec v = v - 1 := by
  unfold satDec; split <;> omega

theorem satInc_le {v hi : Nat} (h : v ≤ hi) : satInc v hi ≤ hi := by
  unfold satInc; split <;> omega

@[simp] theorem outcomeOf_ok (s : State) : outcomeOf (.ok s) = .next s := rfl
@[simp] theorem outcomeOf_error (f : Fault) : outcomeOf (.error f) = .fault f := rfl

theorem outcomeOf_eq_next {r : Except Fault State} {t : State} : outcomeOf r = .next t ↔ r = .ok t := by
  cases r <;> simp

@[simp] theorem afterCommand_next (s : State) : afterCommand (.next s) = .next s.presentNext := rfl
@[simp] theorem afterCommand_fault (f : Fault) : afterCommand (.fault f) = .fault f := rfl
@[simp] theorem afterCommand_refused (r : Refusal) : afterCommand (.refused r) = .refused r := rfl

theorem afterCommand_eq_next {o : StepOutcome} {t : State} (h : afterCommand o = .next t) :
    ∃ u, o = .next u ∧ t = u.presentNext := by
  cases o <;> simp_all

/-! ## Presenting inputs -/

theorem presentNext_of_nil {s : State} (h : s.upcoming = []) : s.presentNext = s := by
  simp [State.presentNext, h]

theorem presentNext_of_cons {s : State} {i : Inputs} {rest : List Inputs} (h : s.upcoming = i :: rest) :
    s.presentNext = { s with pins := i, upcoming := rest } := by
  simp [State.presentNext, h]

@[simp] theorem presentNext_dsc (s : State) : s.presentNext.dsc = s.dsc := by
  unfold State.presentNext; split <;> rfl
@[simp] theorem presentNext_tse (s : State) : s.presentNext.tse = s.tse := by
  unfold State.presentNext; split <;> rfl
@[simp] theorem presentNext_out (s : State) : s.presentNext.out = s.out := by
  unfold State.presentNext; split <;> rfl
@[simp] theorem presentNext_lvg (s : State) : s.presentNext.lvg = s.lvg := by
  unfold State.presentNext; split <;> rfl
@[simp] theorem presentNext_config (s : State) : s.presentNext.config = s.config := by
  unfold State.presentNext; split <;> rfl
@[simp] theorem presentNext_par (s : State) : s.presentNext.par = s.par := by
  unfold State.presentNext; split <;> rfl
@[simp] theorem presentNext_result (s : State) : s.presentNext.result = s.result := by
  unfold State.presentNext; split <;> rfl
@[simp] theorem presentNext_events (s : State) : s.presentNext.events = s.events := by
  unfold State.presentNext; split <;> rfl

/-! ## The ROM -/

/-- The ROM read of a start always answers: with step 0 of the pattern. -/
theorem romRead_stepZero (c : Config) (id : PatternId) :
    romRead c.params (stepAddress c.params id 0) = .ok (stepZero c id) := by
  unfold romRead stepZero
  rw [List.getElem?_eq_getElem (stepAddress_zero_lt c id)]

/-- In a list with a sentinel at `n`, every place up to `n` holds a word. -/
theorem firstEnd_getElem? : ∀ {ws : List StepWord} {n : Nat}, firstEnd ws = some n →
    (∃ w, ws[n]? = some w ∧ stepDuration w = 0#16) ∧ ∀ m < n, ∃ w, ws[m]? = some w ∧ stepDuration w ≠ 0#16
  | [], _, h => by simp [firstEnd] at h
  | w :: ws, n, h => by
    by_cases hw : stepDuration w = 0#16
    · simp only [firstEnd, hw, if_true, Option.some.injEq] at h
      subst h
      exact ⟨⟨w, rfl, hw⟩, by simp⟩
    · simp only [firstEnd, hw, if_false, Option.map_eq_some_iff] at h
      obtain ⟨m, hm, rfl⟩ := h
      obtain ⟨hend, hsteps⟩ := firstEnd_getElem? hm
      refine ⟨by simpa using hend, fun k hk => ?_⟩
      cases k with
      | zero => exact ⟨w, rfl, hw⟩
      | succ k => simpa using hsteps k (by omega)

/-- The words of an accepted pattern: a nonterminal step at every index below its length, the sentinel at its length. -/
theorem patternLength_words {p : Params} {id : PatternId} {n : Nat} (h : p.patternLength id = some n) :
    (∃ w, romRead p (stepAddress p id n) = .ok w ∧ stepDuration w = 0#16) ∧
      ∀ m < n, ∃ w, romRead p (stepAddress p id m) = .ok w ∧ stepDuration w ≠ 0#16 := by
  obtain ⟨⟨w, hw, hd⟩, hsteps⟩ := firstEnd_getElem? h
  simp only [List.getElem?_drop] at hw hsteps
  refine ⟨⟨w, ?_, hd⟩, fun m hm => ?_⟩
  · simp [romRead, stepAddress, hw]
  · obtain ⟨v, hv, hvd⟩ := hsteps m hm
    exact ⟨v, by simp [romRead, stepAddress, hv], hvd⟩

/-! ## The step -/

/-- Everything a step that answers a next state can do. -/
theorem step_cases {s t : State} (h : step s = .next t) :
    (∃ i u, decodeCommand s.pins.cmd = .ok i ∧ exec i s = .next u ∧ t = u.presentNext) ∨
      (∃ e, decodeCommand s.pins.cmd = .error e ∧ t = s.reservedCommand.presentNext) := by
  unfold step State.fetchCommand at h
  split at h
  · obtain ⟨u, hu, rfl⟩ := afterCommand_eq_next h
    exact .inl ⟨_, u, ‹_›, hu, rfl⟩
  · simp only [Host.Outcome.next.injEq] at h
    exact .inr ⟨_, ‹_›, h.symm⟩

theorem step_of_decode {s : State} {i : Instr} (h : decodeCommand s.pins.cmd = .ok i) :
    step s = afterCommand (exec i s) := by
  simp [step, State.fetchCommand, h]

theorem step_of_reserved {s : State} {e : DecodeError} (h : decodeCommand s.pins.cmd = .error e) :
    step s = .next s.reservedCommand.presentNext := by
  simp [step, State.fetchCommand, h]

/-- The commands a command word can decode to. -/
theorem decodeCommand_cases {w : CommandWord} {i : Instr} (h : decodeCommand w = .ok i) :
    i = .nop ∨ i = .poll ∨ i = .swUpdate ∨ i = .swGet ∨ i = .swClear ∨
      (∃ pat, i = .seqStart pat ∧ pat.toNat ≤ 4) ∨ i = .seqUpdate ∨ i = .seqAbort ∨
      (∃ f d, i = .pwmCalc f d) ∨ i = .lvgUpdate := by
  unfold decodeCommand at h
  split at h <;> try (simp only [Except.ok.injEq] at h; subst h; simp)
  · unfold decodePattern at h
    split at h
    · simp only [Except.ok.injEq] at h
      subst h
      simpa using ‹_›
    · cases h
  · cases h

end Sys2Proof.Machine
end

