-- ==== Sys2Proof/Laws/Debounce.lean ====
section
/-! SUPPORT. What the DSC operations do and leave alone. -/

namespace Sys2Proof.Machine

/-- `swUpdate` writes the DSC registers and nothing else; these are their values. -/
theorem swUpdate_eq (s : State) :
    s.swUpdate =
      { s with
        dsc :=
          if s.tickIn = s.dsc.lastTick then s.dsc
          else if s.switchActive then
            if s.dsc.count < s.par.debMax then
              if s.dsc.count + 1 = s.par.debPress then ⟨s.par.debMax, true, s.tickIn⟩
              else ⟨s.dsc.count + 1, s.dsc.status, s.tickIn⟩
            else ⟨s.dsc.count, s.dsc.status, s.tickIn⟩
          else if 0 < s.dsc.count then
            if s.dsc.count - 1 = s.par.debMax - s.par.debRelease then ⟨0, false, s.tickIn⟩
            else ⟨s.dsc.count - 1, s.dsc.status, s.tickIn⟩
          else ⟨s.dsc.count, s.dsc.status, s.tickIn⟩ } := by
  simp only [State.swUpdate, State.swActiveSample, State.swInactiveSample, pressReached, releaseReached, beq_iff_eq,
    State.takeSwTick_dsc, State.takeSwTick_config, State.par]
  split_ifs <;> rfl

@[simp] theorem swUpdate_tse (s : State) : s.swUpdate.tse = s.tse := by rw [swUpdate_eq]
@[simp] theorem swUpdate_out (s : State) : s.swUpdate.out = s.out := by rw [swUpdate_eq]
@[simp] theorem swUpdate_lvg (s : State) : s.swUpdate.lvg = s.lvg := by rw [swUpdate_eq]
@[simp] theorem swUpdate_config (s : State) : s.swUpdate.config = s.config := by rw [swUpdate_eq]
@[simp] theorem swUpdate_par (s : State) : s.swUpdate.par = s.par := by rw [swUpdate_eq]
@[simp] theorem swUpdate_pins (s : State) : s.swUpdate.pins = s.pins := by rw [swUpdate_eq]
@[simp] theorem swUpdate_upcoming (s : State) : s.swUpdate.upcoming = s.upcoming := by rw [swUpdate_eq]
@[simp] theorem swUpdate_result (s : State) : s.swUpdate.result = s.result := by rw [swUpdate_eq]
@[simp] theorem swUpdate_events (s : State) : s.swUpdate.events = s.events := by rw [swUpdate_eq]
@[simp] theorem swUpdate_tickIn (s : State) : s.swUpdate.tickIn = s.tickIn := by rw [swUpdate_eq]; rfl

/-- After an update the last-tick register holds the tick, whether the update did work or not. -/
@[simp] theorem swUpdate_lastTick (s : State) : s.swUpdate.dsc.lastTick = s.tickIn := by
  rw [swUpdate_eq]
  dsimp only
  split_ifs <;> simp_all

end Sys2Proof.Machine
end

