-- ==== Sys2Proof/Laws/Encoding.lean ====
section
/-! SUPPORT. The fields and the words of an instruction as numbers. -/

namespace Sys2Proof

theorem toNat_append_add {m n : Nat} (x : BitVec m) (y : BitVec n) :
    (x ++ y).toNat = x.toNat * 2 ^ n + y.toNat := by
  rw [BitVec.toNat_append, ← Nat.shiftLeft_add_eq_or_of_lt y.isLt, Nat.shiftLeft_eq]

/-! ## Fields -/

theorem opField_toNat (w : CommandWord) : (opField w).toNat = w.toNat / 2 ^ 28 := by
  have := w.isLt
  simp only [opField, BitVec.extractLsb'_toNat, Nat.shiftRight_eq_div_pow]
  omega

theorem patField_toNat (w : CommandWord) : (patField w).toNat = w.toNat % 2 ^ 3 := by
  simp [patField, BitVec.extractLsb'_toNat]

theorem freqField_toNat (w : CommandWord) : (freqField w).toNat = w.toNat / 2 ^ 8 % 2 ^ 16 := by
  simp [freqField, BitVec.extractLsb'_toNat, Nat.shiftRight_eq_div_pow]

theorem dutyField_toNat (w : CommandWord) : (dutyField w).toNat = w.toNat % 2 ^ 8 := by
  simp [dutyField, BitVec.extractLsb'_toNat]

theorem stepDuration_toNat (w : StepWord) : (stepDuration w).toNat = w.toNat / 2 ^ 24 := by
  have := w.isLt
  simp only [stepDuration, BitVec.extractLsb'_toNat, Nat.shiftRight_eq_div_pow]
  omega

theorem stepFreq_toNat (w : StepWord) : (stepFreq w).toNat = w.toNat / 2 ^ 8 % 2 ^ 16 := by
  simp [stepFreq, BitVec.extractLsb'_toNat, Nat.shiftRight_eq_div_pow]

theorem stepDuty_toNat (w : StepWord) : (stepDuty w).toNat = w.toNat % 2 ^ 8 := by
  simp [stepDuty, BitVec.extractLsb'_toNat]

/-! ## Words -/

theorem encodeOp_toNat (op : BitVec 4) : (encodeOp op).toNat = op.toNat * 2 ^ 28 :=
  (toNat_append_add op 0#28).trans (Nat.add_zero _)

theorem startWord_toNat (pat : BitVec 3) :
    ((0x5#4 ++ 0#25 ++ pat : CommandWord)).toNat = 5 * 2 ^ 28 + pat.toNat :=
  (toNat_append_add (0x5#4 ++ 0#25) pat).trans rfl

theorem pwmWord_toNat (f : BitVec 16) (u : BitVec 8) :
    ((0x8#4 ++ 0#4 ++ f ++ u : CommandWord)).toNat = 8 * 2 ^ 28 + f.toNat * 2 ^ 8 + u.toNat := by
  refine (toNat_append_add (0x8#4 ++ 0#4 ++ f) u).trans ?_
  rw [toNat_append_add, Nat.add_mul, Nat.mul_assoc, ← Nat.pow_add]
  rfl

theorem stepWord_toNat (d f : BitVec 16) (u : BitVec 8) :
    ((d ++ f ++ u : StepWord)).toNat = d.toNat * 2 ^ 24 + f.toNat * 2 ^ 8 + u.toNat := by
  refine (toNat_append_add (d ++ f) u).trans ?_
  rw [toNat_append_add, Nat.add_mul, Nat.mul_assoc, ← Nat.pow_add]

end Sys2Proof
end

