-- ==== Sys2Proof/Laws/Tone.lean ====
section
/-! SUPPORT. What the PDC function and the TSE operations do and leave alone. -/

namespace Sys2Proof.Machine

theorem pwmPeriod_le (p : Params) (f : Nat) : pwmPeriod p f ≤ p.periodMax := by
  simp only [pwmPeriod]; exact Nat.min_le_right _ _

theorem pwmCompare_le {period d : Nat} (h : d ≤ 100) : pwmCompare period d ≤ period := by
  unfold pwmCompare
  split
  · exact Nat.le_refl _
  · exact Nat.div_le_of_le_mul (by rw [Nat.mul_comm 100]; exact Nat.mul_le_mul_left _ h)

/-- Both forms of step 0 after a start. -/
theorem seqStart_eq (p : PatternId) (s : State) :
    s.seqStart p =
      if stepDuration (stepZero s.config p) = 0#16 then
        { s with tse := ⟨p, 0, 0, s.tickIn, false⟩ }
      else
        { s with
          tse := ⟨p, 0, (stepDuration (stepZero s.config p)).toNat, s.tickIn, true⟩
          out := { s.out with
            tone := pwmCalc s.par (stepFreq (stepZero s.config p)) (stepDuty (stepZero s.config p)) }
          events := s.events ++
            [.programTone (pwmCalc s.par (stepFreq (stepZero s.config p)) (stepDuty (stepZero s.config p)))] } := by
  by_cases h : stepDuration (stepZero s.config p) = 0#16
  · rw [if_pos h]
    simp only [State.seqStart, h, if_true]
    rfl
  · rw [if_neg h]
    simp only [State.seqStart, h, if_false]
    rfl

@[simp] theorem seqStart_dsc (p : PatternId) (s : State) : (s.seqStart p).dsc = s.dsc := by
  rw [seqStart_eq]; split <;> rfl
@[simp] theorem seqStart_lvg (p : PatternId) (s : State) : (s.seqStart p).lvg = s.lvg := by
  rw [seqStart_eq]; split <;> rfl
@[simp] theorem seqStart_config (p : PatternId) (s : State) : (s.seqStart p).config = s.config := by
  rw [seqStart_eq]; split <;> rfl
@[simp] theorem seqStart_par (p : PatternId) (s : State) : (s.seqStart p).par = s.par := by
  rw [seqStart_eq]; split <;> rfl
@[simp] theorem seqStart_pins (p : PatternId) (s : State) : (s.seqStart p).pins = s.pins := by
  rw [seqStart_eq]; split <;> rfl
@[simp] theorem seqStart_upcoming (p : PatternId) (s : State) : (s.seqStart p).upcoming = s.upcoming := by
  rw [seqStart_eq]; split <;> rfl
@[simp] theorem seqStart_result (p : PatternId) (s : State) : (s.seqStart p).result = s.result := by
  rw [seqStart_eq]; split <;> rfl
@[simp] theorem seqStart_hornOut (p : PatternId) (s : State) : (s.seqStart p).out.hornOut = s.out.hornOut := by
  rw [seqStart_eq]; split <;> rfl
@[simp] theorem seqStart_indRed (p : PatternId) (s : State) : (s.seqStart p).out.indRed = s.out.indRed := by
  rw [seqStart_eq]; split <;> rfl
@[simp] theorem seqStart_cmpSel (p : PatternId) (s : State) : (s.seqStart p).out.cmpSel = s.out.cmpSel := by
  rw [seqStart_eq]; split <;> rfl

/-- Everything an update of the sequencer that answers can do. -/
theorem seqUpdate_cases {s t : State} {playing : Bool} (h : seqUpdate s = .ok (playing, t)) :
    (s.tickIn = s.tse.lastTick ∧ playing = s.tse.active ∧ t = s) ∨
    (s.tickIn ≠ s.tse.lastTick ∧ s.tse.active = false ∧ playing = false ∧ t = s.takeSeqTick) ∨
    (s.tickIn ≠ s.tse.lastTick ∧ s.tse.active = true ∧ 0 < s.tse.remaining ∧ playing = true ∧
      t = s.takeSeqTick.countStep) ∨
    (∃ w, s.tickIn ≠ s.tse.lastTick ∧ s.tse.active = true ∧ s.tse.remaining = 0 ∧
      romRead s.par (stepAddress s.par s.tse.pattern (s.tse.index + 1)) = .ok w ∧ stepDuration w = 0#16 ∧
      playing = false ∧ t = s.takeSeqTick.reachEnd) ∨
    (∃ w, s.tickIn ≠ s.tse.lastTick ∧ s.tse.active = true ∧ s.tse.remaining = 0 ∧
      romRead s.par (stepAddress s.par s.tse.pattern (s.tse.index + 1)) = .ok w ∧ stepDuration w ≠ 0#16 ∧
      playing = true ∧
      t = s.takeSeqTick.advanceIndex.enterStep (stepDuration w) (stepFreq w) (stepDuty w)) := by
  unfold seqUpdate at h
  split at h
  · simp only [Except.ok.injEq, Prod.mk.injEq] at h
    exact .inl ⟨‹_›, h.1.symm, h.2.symm⟩
  rename_i htick
  split at h
  · simp only [Except.ok.injEq, Prod.mk.injEq] at h
    exact .inr (.inl ⟨htick, ‹_›, h.1.symm, h.2.symm⟩)
  rename_i hactive
  rw [Bool.not_eq_false] at hactive
  split at h
  · simp only [Except.ok.injEq, Prod.mk.injEq] at h
    exact .inr (.inr (.inl ⟨htick, hactive, ‹_›, h.1.symm, h.2.symm⟩))
  rename_i hrem
  have hrem : s.tse.remaining = 0 := by omega
  split at h
  · cases h
  rename_i w hw
  split at h
  · simp only [Except.ok.injEq, Prod.mk.injEq] at h
    exact .inr (.inr (.inr (.inl ⟨w, htick, hactive, hrem, hw, ‹_›, h.1.symm, h.2.symm⟩)))
  · simp only [Except.ok.injEq, Prod.mk.injEq] at h
    exact .inr (.inr (.inr (.inr ⟨w, htick, hactive, hrem, hw, ‹_›, h.1.symm, h.2.symm⟩)))

/-- What an update of the sequencer leaves alone. -/
theorem seqUpdate_frame {s t : State} {playing : Bool} (h : seqUpdate s = .ok (playing, t)) :
    t.dsc = s.dsc ∧ t.lvg = s.lvg ∧ t.config = s.config ∧ t.pins = s.pins ∧ t.upcoming = s.upcoming ∧
      t.result = s.result ∧ t.out.hornOut = s.out.hornOut ∧ t.out.indRed = s.out.indRed ∧
      t.out.cmpSel = s.out.cmpSel ∧ t.tse.pattern = s.tse.pattern := by
  rcases seqUpdate_cases h with ⟨-, -, rfl⟩ | ⟨-, -, -, rfl⟩ | ⟨-, -, -, -, rfl⟩ | ⟨_, -, -, -, -, -, -, rfl⟩ |
    ⟨_, -, -, -, -, -, -, rfl⟩ <;> simp

/-- The reported `still_playing` is `seq_active` as the update leaves it. -/
theorem seqUpdate_playing {s t : State} {playing : Bool} (h : seqUpdate s = .ok (playing, t)) :
    playing = t.tse.active := by
  rcases seqUpdate_cases h with ⟨-, rfl, rfl⟩ | ⟨-, ha, rfl, rfl⟩ | ⟨-, ha, -, rfl, rfl⟩ |
    ⟨_, -, -, -, -, -, rfl, rfl⟩ | ⟨_, -, ha, -, -, -, rfl, rfl⟩ <;> simp_all

/-- Inside its pattern the sequencer reads no address outside the ROM. -/
theorem seqUpdate_ok_of_inPattern {s : State} (h : s.InPattern) : ∃ playing t, seqUpdate s = .ok (playing, t) := by
  unfold seqUpdate
  split
  · exact ⟨_, _, rfl⟩
  split
  · exact ⟨_, _, rfl⟩
  rename_i hactive
  rw [Bool.not_eq_false] at hactive
  split
  · exact ⟨_, _, rfl⟩
  obtain ⟨n, hn, hlt⟩ := h.2 hactive
  obtain ⟨⟨e, he, -⟩, hsteps⟩ := patternLength_words hn
  have hread : ∃ w, romRead s.config.params (stepAddress s.config.params s.tse.pattern (s.tse.index + 1)) = .ok w := by
    rcases Nat.lt_or_ge (s.tse.index + 1) n with hl | hg
    · obtain ⟨w, hw, -⟩ := hsteps _ hl
      exact ⟨w, hw⟩
    · have : s.tse.index + 1 = n := by omega
      exact ⟨e, by rw [this]; exact he⟩
  obtain ⟨w, hw⟩ := hread
  simp only [hw]
  split <;> exact ⟨_, _, rfl⟩

end Sys2Proof.Machine
end

