-- ==== Sys2Proof/Laws/Guard.lean ====
section
/-! SUPPORT. What the state handlers of the LVG do and leave alone. -/

namespace Sys2Proof.Machine

/-! ## The handlers, each as the record it gives -/

theorem guardInit_eq (sw : Bool) (s : State) :
    guardInit sw s =
      { s with
        out := { s.out with cmpSel := .critical }
        lvg :=
          { state := .kill, guardTimer := s.par.tKill, commitTimer := s.par.tCommitInit, lvCount := 0,
            lvSticky := false, selPattern := if sw then releasePattern s.pins.configMode else .chargeChime,
            lastTick := s.lvg.lastTick }
        events := s.events ++ [.setCmpThreshold .critical] } := rfl

theorem guardKill_eq (s : State) :
    guardKill s =
      if s.pins.cmpTripped = true then { s with lvg := { s.lvg with state := .dead } }
      else if s.lvg.guardTimer ≤ 1 then
        { s with
          out := { s.out with cmpSel := .lowBatt }
          lvg := { s.lvg with state := .checkHornActive, guardTimer := s.par.tMaxHonk }
          events := s.events ++ [.setCmpThreshold .lowBatt] }
      else { s with lvg := { s.lvg with guardTimer := s.lvg.guardTimer - 1 } } := by
  have hiff : s.lvg.guardTimer - 1 = 0 ↔ s.lvg.guardTimer ≤ 1 := by omega
  by_cases hc : s.pins.cmpTripped = true
  · simp only [guardKill, hc, if_true]
    rfl
  · by_cases ht : s.lvg.guardTimer ≤ 1
    · simp only [guardKill, hc, Bool.false_eq_true, if_false, State.countGuardTimer_lvg, satDec_eq, hiff, ht, if_true]
      rfl
    · simp only [guardKill, hc, Bool.false_eq_true, if_false, State.countGuardTimer_lvg, satDec_eq, hiff, ht]
      rw [State.countGuardTimer, satDec_eq]
      rfl

theorem commitTick_eq (s : State) :
    s.commitTick =
      { s with
        out := { s.out with hornOut := if s.lvg.commitTimer ≤ 1 then true else s.out.hornOut }
        lvg := { s.lvg with commitTimer := s.lvg.commitTimer - 1 }
        events := s.events ++ if s.lvg.commitTimer ≤ 1 then [.setHorn true] else [] } := by
  have hiff : s.lvg.commitTimer - 1 = 0 ↔ s.lvg.commitTimer ≤ 1 := by omega
  by_cases ht : s.lvg.commitTimer ≤ 1 <;>
    simp only [State.commitTick, State.countCommitTimer, State.armCommitTimer_lvg, satDec_eq, hiff, ht, if_true, if_false,
      List.append_nil] <;> rfl

theorem integrateComparator_eq (s : State) :
    s.integrateComparator =
      { s with
        lvg := { s.lvg with
          lvCount := if s.pins.cmpTripped = true then satInc s.lvg.lvCount s.par.lvCountMax else s.lvg.lvCount - 1
          lvSticky := s.lvg.lvSticky ||
            (s.pins.cmpTripped && decide (s.par.lvConfirm ≤ satInc s.lvg.lvCount s.par.lvCountMax)) } } := by
  by_cases hc : s.pins.cmpTripped = true
  · by_cases hl : s.par.lvConfirm ≤ satInc s.lvg.lvCount s.par.lvCountMax <;>
      simp only [State.integrateComparator, lowVoltageConfirmed, State.setLvCount_lvg, State.setLvCount_par, hc, hl, if_true,
        decide_true, decide_false, Bool.false_eq_true, if_false, Bool.and_true, Bool.and_false, Bool.or_true, Bool.or_false] <;>
      rfl
  · rw [Bool.not_eq_true] at hc
    simp only [State.integrateComparator, hc, Bool.false_eq_true, if_false, satDec_eq, Bool.false_and, Bool.or_false]
    rfl

theorem maxHonkTick_eq (s : State) :
    s.maxHonkTick =
      { s with
        dsc := { s.dsc with status := if s.lvg.guardTimer ≤ 1 then false else s.dsc.status }
        lvg := { s.lvg with guardTimer := s.lvg.guardTimer - 1 } } := by
  have hiff : s.lvg.guardTimer - 1 = 0 ↔ s.lvg.guardTimer ≤ 1 := by omega
  by_cases ht : s.lvg.guardTimer ≤ 1 <;>
    simp only [State.maxHonkTick, State.countGuardTimer, State.armGuardTimer_lvg, satDec_eq, hiff, ht, if_true, if_false] <;> rfl

theorem guardHeldTick_eq (s : State) :
    guardHeldTick s =
      { s with
        dsc := { s.dsc with status := if s.lvg.guardTimer ≤ 1 then false else s.dsc.status }
        out := { s.out with hornOut := if s.lvg.commitTimer ≤ 1 then true else s.out.hornOut }
        lvg := { s.lvg with
          guardTimer := s.lvg.guardTimer - 1
          commitTimer := s.lvg.commitTimer - 1
          lvCount := if s.pins.cmpTripped = true then satInc s.lvg.lvCount s.par.lvCountMax else s.lvg.lvCount - 1
          lvSticky := s.lvg.lvSticky ||
            (s.pins.cmpTripped && decide (s.par.lvConfirm ≤ satInc s.lvg.lvCount s.par.lvCountMax))
          selPattern := releasePattern s.pins.configMode }
        events := s.events ++ if s.lvg.commitTimer ≤ 1 then [.setHorn true] else [] } := by
  rw [guardHeldTick, maxHonkTick_eq, integrateComparator_eq, commitTick_eq]
  rfl

theorem guardCheckHornActive_eq (sw : Bool) (s : State) :
    guardCheckHornActive sw s =
      if sw = true then guardHeldTick s
      else ((s.setHorn false).seqStart s.lvg.selPattern).goTo .checkBell := rfl

theorem guardCheckHornIdle_eq (sw : Bool) (s : State) :
    guardCheckHornIdle sw s =
      if sw = true then s.hornOff.enterActive
      else if s.lvg.guardTimer ≤ 1 ∧ s.lvg.lvSticky = true then
        (s.hornOff.countGuardTimer.seqStart .lowBattChime).goTo .endBeep
      else s.hornOff.countGuardTimer := by
  have hiff : s.lvg.guardTimer - 1 = 0 ↔ s.lvg.guardTimer ≤ 1 := by omega
  by_cases hs : sw = true
  · simp only [guardCheckHornIdle, hs, if_true]
  · by_cases hc : s.lvg.guardTimer ≤ 1 ∧ s.lvg.lvSticky = true <;>
      simp only [guardCheckHornIdle, hs, Bool.false_eq_true, if_false, State.countGuardTimer_lvg, State.hornOff_lvg, satDec_eq,
        hiff, hc]

/-! ## Every case of an update -/

/-- What CHECK_BELL can do, when its sequencer update answers. -/
theorem guardCheckBell_cases {sw : Bool} {s t : State} (h : guardCheckBell sw s = .ok t) :
    ∃ playing u, seqUpdate s = .ok (playing, u) ∧
      ((playing = true ∧ sw = true ∧ t = u.seqAbort.enterActive) ∨
       (playing = true ∧ sw = false ∧ t = u) ∨
       (playing = false ∧ u.lvg.lvSticky = true ∧ t = (u.seqStart .lowBattChime).goTo .endBeep) ∨
       (playing = false ∧ u.lvg.lvSticky = false ∧ t = (u.armGuardTimer u.par.tRebeepWait).goTo .checkHornIdle)) := by
  unfold guardCheckBell at h
  split at h
  · cases h
  · rename_i u hu
    simp only [Except.ok.injEq] at h
    refine ⟨true, u, hu, ?_⟩
    cases sw <;> simp_all
  · rename_i u hu
    refine ⟨false, u, hu, ?_⟩
    split at h <;> simp_all

/-- What END_BEEP can do, when its sequencer update answers. -/
theorem guardEndBeep_cases {sw : Bool} {s t : State} (h : guardEndBeep sw s = .ok t) :
    (sw = true ∧ t = s.seqAbort.enterActive.endBeepFallthrough) ∨
    (∃ u, sw = false ∧ seqUpdate s = .ok (true, u) ∧ t = u.endBeepFallthrough) ∨
    (∃ u, sw = false ∧ seqUpdate s = .ok (false, u) ∧ t = (u.hornOff.armGuardTimer 0).endBeepFallthrough) := by
  unfold guardEndBeep at h
  split at h
  · simp only [Except.ok.injEq] at h
    exact .inl ⟨‹_›, h.symm⟩
  rename_i hsw
  rw [Bool.not_eq_true] at hsw
  split at h
  · cases h
  · simp only [Except.ok.injEq] at h
    exact .inr (.inl ⟨_, hsw, ‹_›, h.symm⟩)
  · simp only [Except.ok.injEq] at h
    exact .inr (.inr ⟨_, hsw, ‹_›, h.symm⟩)

theorem endBeepFallthrough_eq (s : State) :
    s.endBeepFallthrough = if s.par.endBeepFallsIntoDead = true then s.setRed else s := rfl

/-- Everything a guard update that answers can do: nothing without a tick, else the handler of its state. -/
theorem lvgUpdate_cases {s t : State} (h : lvgUpdate s = .ok t) :
    (s.tickIn = s.lvg.lastTick ∧ t = s) ∨
    (s.tickIn ≠ s.lvg.lastTick ∧
      ((s.lvg.state = .init ∧ t = guardInit s.dsc.status s.takeGuardTick) ∨
       (s.lvg.state = .kill ∧ t = guardKill s.takeGuardTick) ∨
       (s.lvg.state = .checkBell ∧ guardCheckBell s.dsc.status s.takeGuardTick = .ok t) ∨
       (s.lvg.state = .checkHornIdle ∧ t = guardCheckHornIdle s.dsc.status s.takeGuardTick) ∨
       (s.lvg.state = .checkHornActive ∧ t = guardCheckHornActive s.dsc.status s.takeGuardTick) ∨
       (s.lvg.state = .endBeep ∧ guardEndBeep s.dsc.status s.takeGuardTick = .ok t) ∨
       ((s.lvg.state = .dead ∨ s.lvg.state = .reserved) ∧ t = s.takeGuardTick.setRed))) := by
  unfold lvgUpdate at h
  split at h
  · simp only [Except.ok.injEq] at h
    exact .inl ⟨‹_›, h.symm⟩
  · refine .inr ⟨‹_›, ?_⟩
    unfold guardHandler at h
    split at h <;> rename_i hst <;> simp only [State.takeGuardTick_lvg] at hst <;> simp_all [guardDead]

/-- The guard update in a given state, once a tick has elapsed. -/
theorem lvgUpdate_of_tick {s : State} (h : s.tickIn ≠ s.lvg.lastTick) :
    lvgUpdate s = guardHandler s.dsc.status s.takeGuardTick := by
  simp [lvgUpdate, h]

/-- Everything a poll that answers can do. -/
theorem poll_cases {s t : State} (h : poll s = .ok t) :
    (s.pins.charging = true ∧ t = s.swUpdate) ∨ (s.pins.charging = false ∧ lvgUpdate s.swUpdate = .ok t) := by
  unfold poll at h
  by_cases hc : s.pins.charging = true
  · simp only [swUpdate_pins, hc, if_true, Except.ok.injEq] at h
    exact .inl ⟨hc, h.symm⟩
  · simp only [swUpdate_pins, hc, Bool.false_eq_true, if_false] at h
    exact .inr ⟨by simpa using hc, h⟩

/-- What a guard update leaves alone. -/
theorem lvgUpdate_frame {s t : State} (h : lvgUpdate s = .ok t) :
    t.config = s.config ∧ t.pins = s.pins ∧ t.upcoming = s.upcoming ∧ t.result = s.result ∧
      t.dsc.count = s.dsc.count ∧ t.dsc.lastTick = s.dsc.lastTick ∧ t.lvg.lastTick = s.tickIn := by
  rcases lvgUpdate_cases h with ⟨htick, rfl⟩ | ⟨-, ⟨-, rfl⟩ | ⟨-, rfl⟩ | ⟨-, hb⟩ | ⟨-, rfl⟩ | ⟨-, rfl⟩ | ⟨-, he⟩ | ⟨-, rfl⟩⟩
  · simp [htick]
  · simp [guardInit_eq]
  · rw [guardKill_eq]; split_ifs <;> simp
  · obtain ⟨playing, u, hu, hcases⟩ := guardCheckBell_cases hb
    have hf := seqUpdate_frame hu
    rcases hcases with ⟨-, -, rfl⟩ | ⟨-, -, rfl⟩ | ⟨-, -, rfl⟩ | ⟨-, -, rfl⟩ <;> simp [hf]
  · rw [guardCheckHornIdle_eq]; split_ifs <;> simp
  · rw [guardCheckHornActive_eq]; split_ifs <;> simp [guardHeldTick_eq]
  · rcases guardEndBeep_cases he with ⟨-, rfl⟩ | ⟨u, -, hu, rfl⟩ | ⟨u, -, hu, rfl⟩
    · rw [endBeepFallthrough_eq]; split_ifs <;> simp
    · have hf := seqUpdate_frame hu
      rw [endBeepFallthrough_eq]; split_ifs <;> simp [hf]
    · have hf := seqUpdate_frame hu
      rw [endBeepFallthrough_eq]; split_ifs <;> simp [hf]
  · simp

end Sys2Proof.Machine
end

