-- ==== Sys2Proof/Laws/PerInstr.lean ====
section
/-! SUPPORT. Per-instruction families. `OpcodeMatch`: the canonical word of an instruction fits its row of
spec/opcode_table.json: `op` in the top four bits of a command word (the row's match under the mask 0xF0000000), and the
duration zero or not in a step word. -/

namespace Sys2Proof.Laws.OpcodeMatch

/-- The `op` code of a command's row; a step word has none. -/
def rowOp : Instr → Option Nat
  | .nop => some 0
  | .poll => some 1
  | .swUpdate => some 2
  | .swGet => some 3
  | .swClear => some 4
  | .seqStart _ => some 5
  | .seqUpdate => some 6
  | .seqAbort => some 7
  | .pwmCalc _ _ => some 8
  | .lvgUpdate => some 9
  | .stepWord _ _ _ => none
  | .endWord => none

/-- The word of a well-formed instruction fits its row. -/
def Statement (i : Instr) : Prop :=
  i.wf = true →
    match encode i with
    | .command w => rowOp i = some (w.toNat / 2 ^ 28)
    | .romWord w => rowOp i = none ∧ (w.toNat / 2 ^ 24 = 0 ↔ i = .endWord)

theorem nop : Statement .nop := fun _ => rfl
theorem poll : Statement .poll := fun _ => rfl
theorem swUpdate : Statement .swUpdate := fun _ => rfl
theorem swGet : Statement .swGet := fun _ => rfl
theorem swClear : Statement .swClear := fun _ => rfl
theorem seqUpdate : Statement .seqUpdate := fun _ => rfl
theorem seqAbort : Statement .seqAbort := fun _ => rfl
theorem lvgUpdate : Statement .lvgUpdate := fun _ => rfl

theorem seqStart (pat : BitVec 3) : Statement (.seqStart pat) := by
  intro _
  have := pat.isLt
  show some 5 = some _
  rw [startWord_toNat]
  congr 1
  omega

theorem pwmCalc (freq : BitVec 16) (duty : BitVec 8) : Statement (.pwmCalc freq duty) := by
  intro _
  have := freq.isLt
  have := duty.isLt
  show some 8 = some _
  rw [pwmWord_toNat]
  congr 1
  omega

theorem stepWord (duration freq : BitVec 16) (duty : BitVec 8) : Statement (.stepWord duration freq duty) := by
  intro h
  have := freq.isLt
  have := duty.isLt
  have hd : duration.toNat ≠ 0 := fun h0 => by
    have : duration = 0#16 := BitVec.eq_of_toNat_eq h0
    simp [Instr.wf, this] at h
  refine ⟨rfl, ?_⟩
  rw [stepWord_toNat]
  constructor
  · intro h0
    omega
  · intro h0
    cases h0

theorem endWord : Statement .endWord := fun _ => ⟨rfl, ⟨fun _ => rfl, fun _ => rfl⟩⟩

end Sys2Proof.Laws.OpcodeMatch
end

