-- ==== Sys2Proof/Tests/Slice0.lean ====
section
/-! SUPPORT. Tests against the numbers of spec/, and for every statement of Obligations.lean that has hypotheses a concrete
state and operands that meet them together. -/

namespace Sys2Proof.Tests

open Sys2Proof.Machine

/-! ## The example configuration REF (spec/00_scope.md rule R10) -/

/-- The words of the ROM as spec/95_test_vectors.md section 6 writes them. -/
def refRom : List StepWord :=
  [0x000501B864, 0, 0x000307D032, 0x000207D019, 0, 0x000203E832, 0x000205DC32, 0, 0x0002032064, 0x0001000A00, 0x000203201E, 0,
    0x000401B832, 0]

def refParams : Params :=
  { debMax := 10, debPress := 3, debRelease := 4, debSeed := 0, clockHz := 16000000, prescaler := 8, minFreq := 20,
    maxFreq := 20000, patternRom := refRom, patternBase := ⟨0, 2, 5, 8, 12⟩, tKill := 3, tMaxHonk := 20, tCommitInit := 2,
    tCommit := 4, tRebeepWait := 5, lvCountMax := 6, lvConfirm := 4, dacCritical := 0, dacLowBatt := 1 }

def ref : Config := ⟨refParams, by decide⟩

/-- REF with an empty pattern 0 (spec/95_test_vectors.md I3). -/
def emptyRef : Config := ⟨{ refParams with patternBase := ⟨1, 2, 5, 8, 12⟩ }, by decide⟩

/-! ## Small states -/

/-- The inputs of one command: the word on `cmd`, the tick, the button line (REF: `false` is pressed) and the comparator. -/
def ins (cmd : CommandWord) (tick : Nat) (raw : Bool := true) (cmp : Bool := false) : Inputs :=
  { cmd := cmd, tick := tick, rawLevel := raw, cmpTripped := cmp, configMode := .fullBell, charging := false }

/-- Reset, then the given registers, and the given inputs on the pins. -/
def st (pins : Inputs) (dsc : Dsc := ⟨0, false, 0⟩) (tse : Tse := ⟨.hornSteady, 0, 0, 0, false⟩)
    (lvg : Lvg := ⟨.init, 0, 0, 0, false, .chargeChime, 0⟩) (out : OutputRegs := ⟨⟨0, 0⟩, false, false, .critical⟩) : State :=
  { State.resetWith ref with dsc := dsc, tse := tse, lvg := lvg, out := out, pins := pins }

/-- A pressed button that the DSC has settled on. -/
def pressed : Dsc := ⟨10, true, 0⟩

/-- The guard in a state, with its two timers, its counter and its flag. -/
def grd (g : GuardState) (guardTimer : Nat := 0) (commitTimer : Nat := 0) (lvCount : Nat := 0) (sticky : Bool := false) : Lvg :=
  ⟨g, guardTimer, commitTimer, lvCount, sticky, .bellDecay, 0⟩

/-- The state an outcome holds; the reset state where it holds none. -/
def after : StepOutcome → State
  | .next t => t
  | .fault _ => State.resetWith ref
  | .refused _ => State.resetWith ref

/-- Whether an outcome is a next state. -/
def isNext : StepOutcome → Bool
  | .next _ => true
  | .fault _ => false
  | .refused _ => false

/-! ## Ill-formed terms and refused records -/

theorem test_wf_refuses_pattern_5 : (Instr.seqStart 5).wf = false := by decide
theorem test_wf_refuses_step_of_duration_0 : (Instr.stepWord 0 2000 50).wf = false := by decide
theorem test_R3_refuses_equal_thresholds :
    Config.ofParams { refParams with debPress := 6 } = .error .debounce := by decide
theorem test_R4_refuses_min_freq_0 : Config.ofParams { refParams with minFreq := 0 } = .error .pwm := by decide
theorem test_R5_refuses_confirm_above_max : Config.ofParams { refParams with lvConfirm := 7 } = .error .guard := by decide
theorem test_R25_refuses_timeout_above_the_timers :
    Config.ofParams { refParams with tMaxHonk := 65536 } = .error .guard ∧
    ({ refParams with tMaxHonk := 65535 } : Params).ok = true := by decide
theorem test_R6_refuses_pattern_without_end :
    Config.ofParams { refParams with patternRom := refRom.dropLast } = .error .patternRom := by decide

/-! ## Decoding of words written out from spec/30_encoding.md and spec/95_test_vectors.md section 6 -/

theorem test_decode_nop : decodeCommand 0x00000000 = .ok .nop := by decide
theorem test_decode_poll : decodeCommand 0x10000000 = .ok .poll := by decide
theorem test_decode_swUpdate : decodeCommand 0x20000000 = .ok .swUpdate := by decide
theorem test_decode_swGet_ignores_bits : decodeCommand 0x3ABCDEF0 = .ok .swGet := by decide
theorem test_decode_swClear : decodeCommand 0x40000000 = .ok .swClear := by decide
theorem test_decode_seqStart : decodeCommand 0x50000003 = .ok (.seqStart 3) := by decide
theorem test_decode_seqStart_ignores_bits : decodeCommand 0x5FFFFFF9 = .ok (.seqStart 1) := by decide
theorem test_decode_seqUpdate : decodeCommand 0x60000000 = .ok .seqUpdate := by decide
theorem test_decode_seqAbort : decodeCommand 0x70000000 = .ok .seqAbort := by decide
theorem test_decode_pwmCalc : decodeCommand 0x8001B832 = .ok (.pwmCalc 440 50) := by decide
theorem test_decode_pwmCalc_ignores_bits : decodeCommand 0x8F07D032 = .ok (.pwmCalc 2000 50) := by decide
theorem test_decode_lvgUpdate : decodeCommand 0x90000000 = .ok .lvgUpdate := by decide
theorem test_decode_step : decodeStepWord 0x000307D032 = .stepWord 3 2000 50 := by decide
theorem test_decode_end_ignores_fields : decodeStepWord 0x000007D032 = .endWord := by decide
theorem test_decode_reserved_op_10 : decodeCommand 0xA0000000 = .error (.reservedOp 10) := by decide
theorem test_decode_reserved_pattern_5 : decodeCommand 0x50000005 = .error (.reservedPattern 5) := by decide
theorem test_encode_step : encode (.stepWord 1 10 0) = .romWord 0x0001000A00 := by decide
theorem test_encode_seqStart : encode (.seqStart 3) = .command 0x50000003 := by decide

/-- The pattern table of spec/95_test_vectors.md section 6 assembles to the ROM it prints: its last two patterns. -/
theorem test_pattern_words :
    patternWords [.stepWord 2 800 100, .stepWord 1 10 0, .stepWord 2 800 30, .endWord, .stepWord 4 440 50, .endWord] =
      .ok (refRom.drop 8) := by decide

/-! ## The step from reset, whatever the configuration -/

theorem test_reset_runs_poll : isNext (step (State.reset.withFetchWord 32 0x10000000)) = true := by decide
theorem test_reset_runs_step_word : isNext (step (State.reset.withFetchWord 40 0x000307D032)) = true := by decide

/-! ## Single steps: the examples of the rules and rows of spec/95_test_vectors.md -/

/-- R91's example. -/
theorem test_swUpdate_latches_press :
    (after (exec .swUpdate (st (ins 0x20000000 3 false) ⟨2, false, 2⟩))).dsc = ⟨10, true, 3⟩ := by decide

/-- Vector H1, tick 9. -/
theorem test_swUpdate_latches_release :
    (after (exec .swUpdate (st (ins 0x20000000 9) ⟨7, true, 8⟩))).dsc = ⟨0, false, 9⟩ := by decide

/-- R92's example. -/
theorem test_swGet_returns_status : (after (exec .swGet (st (ins 0x30000000 5) pressed))).result = ⟨true, 0, 0, false⟩ := by
  decide

/-- R93's example. -/
theorem test_swClear_keeps_count : (after (exec .swClear (st (ins 0x40000000 5) pressed))).dsc = ⟨10, false, 0⟩ := by decide

/-- R100's example. -/
theorem test_pwmCalc_440_50 :
    (after (exec (.pwmCalc 440 50) (st (ins 0x8001B832 0)))).result = ⟨false, 4544, 2272, false⟩ := by decide

/-- The row `0, 50` of spec/95_test_vectors.md section 3: the frequency is clamped, the period saturates. -/
theorem test_pwmCalc_saturates :
    (after (exec (.pwmCalc 0 50) (st (ins 0x80000032 0)))).result = ⟨false, 65535, 32767, false⟩ := by decide

/-- R111's example. -/
theorem test_seqStart_example :
    let t := after (exec (.seqStart 1) (st (ins 0x50000001 17)))
    t.tse = ⟨.bellDecay, 0, 3, 17, true⟩ ∧ t.events = [.programTone ⟨999, 499⟩] := by decide

/-- Vector I3: an empty pattern. -/
theorem test_seqStart_empty_pattern :
    (after (exec (.seqStart 0) { st (ins 0x50000000 3) with config := emptyRef })).tse = ⟨.hornSteady, 0, 0, 3, false⟩ := by
  decide

/-- R112's example. -/
theorem test_seqUpdate_advances :
    let t := after (exec .seqUpdate (st (ins 0x60000000 9) (tse := ⟨.bellDecay, 0, 0, 8, true⟩)))
    t.tse = ⟨.bellDecay, 1, 2, 9, true⟩ ∧ t.out.tone = ⟨999, 249⟩ ∧ t.result.resBool = true := by decide

/-- R114's example. -/
theorem test_seqUpdate_reaches_end :
    let t := after (exec .seqUpdate (st (ins 0x60000000 9) (tse := ⟨.bellDecay, 1, 0, 8, true⟩)))
    t.tse = ⟨.bellDecay, 1, 0, 9, false⟩ ∧ t.result.resBool = false := by decide

/-- R115's example. -/
theorem test_seqAbort_keeps_tone :
    let t := after (exec .seqAbort (st (ins 0x70000000 9) (tse := ⟨.bellDecay, 0, 2, 8, true⟩)
      (out := ⟨⟨999, 499⟩, false, false, .critical⟩)))
    t.tse = ⟨.bellDecay, 0, 2, 8, false⟩ ∧ t.out.tone = ⟨999, 499⟩ := by decide

/-- R113's example. -/
theorem test_stepWord_example :
    let t := after (exec (.stepWord 1 10 0) (st (ins 0 9)))
    t.tse.remaining = 1 ∧ t.out.tone = ⟨65535, 0⟩ := by decide

/-- The sequencer runs a word of the ROM: the step after `withFetchWord`. -/
theorem test_fetched_step_word :
    let t := after (step ((st (ins 0 9)).withFetchWord 40 0x0001000A00))
    t.tse.remaining = 1 ∧ t.out.tone = ⟨65535, 0⟩ := by decide

theorem test_endWord_idles : (after (exec .endWord (st (ins 0 9) (tse := ⟨.bellDecay, 1, 0, 8, true⟩)))).tse.active = false := by
  decide

/-- R134's example, tick 1 of vector A. -/
theorem test_lvgUpdate_init :
    (after (exec .lvgUpdate (st (ins 0x90000000 1 false)))).lvg = ⟨.kill, 3, 2, 0, false, .chargeChime, 1⟩ := by decide

/-- R138's example. -/
theorem test_lvgUpdate_held_tick :
    let t := after (exec .lvgUpdate (st (ins 0x90000000 1 false true) pressed (lvg := grd .checkHornActive 9 1 3)))
    t.out.hornOut = true ∧ t.lvg = ⟨.checkHornActive, 8, 0, 4, true, .bellDecay, 1⟩ := by decide

/-- R161's example. -/
theorem test_poll_example :
    let t := after (exec .poll (st (ins 0x10000000 1 false)))
    t.dsc.count = 1 ∧ t.lvg.state = .kill := by decide

/-- Tick 16 of vector A: the DSC latches the release and the guard sees it in the same poll. -/
theorem test_poll_release :
    let t := after (exec .poll (st (ins 0x10000000 16) ⟨7, true, 15⟩
      (lvg := ⟨.checkHornActive, 9, 0, 0, false, .bellDecay, 15⟩) (out := ⟨⟨0, 0⟩, true, false, .lowBatt⟩)))
    t.lvg.state = .checkBell ∧ t.tse = ⟨.bellDecay, 0, 3, 16, true⟩ ∧
      t.events = [.setHorn false, .programTone ⟨999, 499⟩] := by decide

theorem test_nop_keeps_registers : (after (exec .nop (st (ins 0 9) pressed))).dsc = pressed := by decide

/-- Program P6, its fourth word. -/
theorem test_reserved_sets_cmd_err : (after (step (st (ins 0xA0000000 0)))).result = ⟨false, 0, 0, true⟩ := by decide

/-! ## Witnesses: each shows that the hypotheses of the statement it is named for can be met together -/

theorem test_witness_DecodeOfEncodeIsIdentity : (Instr.seqStart 4).wf = true ∧ (Instr.stepWord 65535 0 255).wf = true := by
  decide

theorem test_witness_DecodedInstructionIsWellFormed :
    decode (.command 0x50000004) = .ok (.seqStart 4) ∧ decode (.romWord 0x0001000000) = .ok (.stepWord 1 0 0) := by decide

theorem test_witness_IgnoredBitsAreIgnored :
    (opField 0x50000003 = opField 0x5ABCDEFB ∧ patField 0x50000003 = patField 0x5ABCDEFB) ∧
    (opField 0x8001B832 = opField 0x8F01B832 ∧ freqField 0x8001B832 = freqField 0x8F01B832 ∧
      dutyField 0x8001B832 = dutyField 0x8F01B832) ∧
    opField 0x30000000 = opField 0x3ABCDEF0 := by decide

theorem test_witness_StepWordFormIsDecidedByDuration :
    stepDuration 0x0000FFFFFF = 0#16 ∧ stepDuration 0x0001000000 ≠ 0#16 := by decide

/-- A sequencer that stands outside its pattern, as no run leaves it: the only state an update stops in. -/
def outside : State := st (ins 0x60000000 9) (tse := ⟨.miniHonk, 1, 0, 8, true⟩)

theorem test_witness_StepRunsTheDecodedCommand :
    (decodeCommand (st (ins 0 1)).pins.cmd = .ok .nop ∧ Instr.nop.wf = true ∧
      exec .nop (st (ins 0 1)) = .next (st (ins 0 1)) ∧ (st (ins 0 1)).upcoming = []) ∧
    exec .nop { st (ins 0 1) with upcoming := [ins 0 2] } = .next { st (ins 0 1) with upcoming := [ins 0 2] } ∧
    (decodeCommand outside.pins.cmd = .ok .seqUpdate ∧ exec .seqUpdate outside = .fault (.romAddress 14)) :=
  ⟨⟨by decide, by decide, rfl, rfl⟩, rfl, by decide, rfl⟩

theorem test_witness_StepRunsThePlacedWord :
    decodeTableWord 32 0x50000003 = some (.seqStart 3) ∧ decodeTableWord 40 0x000307D032 = some (.stepWord 3 2000 50) := by
  decide

/-- The reserved codes at the two ends of each range, and a program without one. -/
theorem test_witness_ReservedCommandIsHarmless :
    10 ≤ (opField (st (ins 0xA0000000 0)).pins.cmd).toNat ∧
    ((opField (st (ins 0x5FFFFFFF 0)).pins.cmd).toNat = 5 ∧ 5 ≤ (patField (st (ins 0x5FFFFFFF 0)).pins.cmd).toNat) ∧
    ((opField (st (ins 0x50000004 0)).pins.cmd).toNat = 5 ∧ ¬5 ≤ (patField (st (ins 0x50000004 0)).pins.cmd).toNat) ∧
    isNext (step (st (ins 0x50000004 0))) = true ∧
    (∃ s, loadProgram ref [.command .poll, .rawWord 0x3ABCDEF0] = .ok s) :=
  ⟨by decide, by decide, by decide, by decide, _, rfl⟩

theorem test_witness_ReservedCommandTakesAStep :
    (decodeCommand (st (ins 0x50000007 0)).pins.cmd = .error (.reservedPattern 7) ∧ (st (ins 0x50000007 0)).upcoming = []) ∧
    decodeCommand ({ st (ins 0xFFFFFFFF 0) with upcoming := [ins 0 1] } : State).pins.cmd = .error (.reservedOp 15) ∧
    5 ≤ (5 : BitVec 3).toNat := by decide

/-- A word of each `op`, for the clauses that say how a command is encoded. -/
theorem test_witness_op_fields :
    opField 0x0FFFFFFF = 0#4 ∧ opField 0x10000000 = 1#4 ∧ opField 0x20000000 = 2#4 ∧ opField 0x30000000 = 3#4 ∧
    opField 0x40000000 = 4#4 ∧ (opField 0x50000004 = 5#4 ∧ (patField 0x50000004).toNat ≤ 4) ∧ opField 0x60000000 = 6#4 ∧
    opField 0x70000000 = 7#4 ∧ opField 0x8FFFFFFF = 8#4 ∧ opField 0x90000000 = 9#4 := by decide

theorem test_loadProgram_refuses_reserved :
    loadProgram ref [.command .nop, .rawWord 0xA0000000] = .error (.reservedCommand (.reservedOp 10)) := by decide

theorem test_witness_StatusMovesWithTheSample :
    (∃ t, exec .swUpdate (st (ins 0x20000000 1 false) pressed) = .next t ∧
      (st (ins 0x20000000 1 false) pressed).switchActive = true ∧
      (st (ins 0x20000000 1 false) pressed).dsc.status = true) ∧
    (∃ t, exec .swUpdate (st (ins 0x20000000 1) pressed) = .next t ∧
      (st (ins 0x20000000 1) pressed).switchActive = false ∧ t.dsc.status = true) :=
  ⟨⟨_, rfl, by decide, by decide⟩, _, rfl, by decide, by decide⟩

/-- Three active and four inactive samples on fresh ticks: the runs at whose last update REF latches. -/
theorem test_witness_PressAndReleaseLatchOnTime :
    let a := [ins 0x20000000 1 false, ins 0x20000000 900 false, ins 0x20000000 65536 false]
    let b := [ins 0x20000000 1, ins 0x20000000 2, ins 0x20000000 3, ins 0x20000000 4]
    (FreshTicks refParams 0 a ∧ AllCommand .swUpdate a ∧ AllSamples refParams true a ∧
      (State.resetWith ref).dsc.status = false ∧ (State.resetWith ref).dsc.count = 0) ∧
    (FreshTicks refParams 0 b ∧ AllCommand .swUpdate b ∧ AllSamples refParams false b ∧
      (st (ins 0 0) pressed).dsc.status = true ∧ (st (ins 0 0) pressed).dsc.count = refParams.debMax) :=
  ⟨⟨⟨by decide, by decide, by decide, trivial⟩, by decide, by decide, rfl, rfl⟩,
    ⟨by decide, by decide, by decide, by decide, trivial⟩, by decide, by decide, rfl, rfl⟩

theorem test_witness_ClearedPressStaysCleared :
    let a := [ins 0x20000000 1 false, ins 0x20000000 2 false]
    let b := [ins 0x20000000 1, ins 0x20000000 2, ins 0x20000000 3, ins 0x20000000 4]
    let s := st (ins 0 0) ⟨10, false, 0⟩
    (FreshTicks s.par s.dsc.lastTick a ∧ AllCommand .swUpdate a ∧ AllSamples s.par true a) ∧
    (FreshTicks s.par s.dsc.lastTick b ∧ AllCommand .swUpdate b ∧ AllSamples s.par false b) ∧
    s.dsc.status = false ∧ s.dsc.count = s.par.debMax :=
  ⟨⟨⟨by decide, by decide, trivial⟩, by decide, by decide⟩,
    ⟨⟨by decide, by decide, by decide, by decide, trivial⟩, by decide, by decide⟩, rfl, rfl⟩

theorem test_witness_PwmCalcIsMonotone :
    (0 : BitVec 16).toNat ≤ (65535 : BitVec 16).toNat ∧ (99 : BitVec 8).toNat ≤ (255 : BitVec 8).toNat := by decide

theorem test_witness_SeqStartSelectsThePattern :
    (romRead ref.params (ref.params.patternBase.get .miniHonk + 0) = .ok 0x000401B832 ∧
      stepDuration 0x000401B832 ≠ 0#16) ∧
    (romRead emptyRef.params (emptyRef.params.patternBase.get .hornSteady + 0) = .ok 0 ∧ stepDuration 0 = 0#16) := by decide

/-- A sequencer on the given step of pattern 1, with the tick 9 on the pins. -/
def playing (index remaining : Nat) (lastTick : Nat := 8) : State :=
  st (ins 0x60000000 9) (tse := ⟨.bellDecay, index, remaining, lastTick, true⟩)

/-- One state for each clause: no tick, idle, counting, the next step, the sentinel. -/
theorem test_witness_SeqUpdateAdvancesThePlayback :
    (playing 0 3 9).tickIn = (playing 0 3 9).tse.lastTick ∧
    ((State.resetWith ref).withPins (ins 0x60000000 9)).tickIn ≠ (State.resetWith ref).tse.lastTick ∧
    ((playing 0 1).tickIn ≠ (playing 0 1).tse.lastTick ∧ (playing 0 1).tse.active = true ∧ 0 < (playing 0 1).tse.remaining) ∧
    (romRead ref.params (ref.params.patternBase.get .bellDecay + ((playing 0 0).tse.index + 1)) = .ok 0x000207D019 ∧
      stepDuration 0x000207D019 ≠ 0#16) ∧
    (romRead ref.params (ref.params.patternBase.get .bellDecay + ((playing 1 0).tse.index + 1)) = .ok 0 ∧
      stepDuration 0 = 0#16) := by decide

theorem test_witness_SeqUpdateStopsOutsideTheRom :
    (outside.tickIn ≠ outside.tse.lastTick ∧ outside.tse.active = true ∧ outside.tse.remaining = 0 ∧
      outside.par.patternRom.length ≤ outside.par.patternBase.get outside.tse.pattern + (outside.tse.index + 1)) := by
  decide

theorem test_witness_StepWordsDoTheirEffect : (1 : BitVec 16) ≠ 0#16 := by decide

theorem test_witness_SequencerRunsTheRomWords :
    (romRead ref.params (ref.params.patternBase.get .bellDecay + 0) = .ok 0x000307D032 ∧
      ∃ t, exec (decodeStepWord 0x000307D032) ((State.resetWith ref).startPattern .bellDecay 3) = .next t) ∧
    (∃ t, exec (decodeStepWord 0x000207D019) (playing 0 0).takeSeqTick.advanceIndex = .next t) ∧
    (∃ t, exec (decodeStepWord 0) (playing 1 0).takeSeqTick = .next t) :=
  ⟨⟨by decide, _, rfl⟩, ⟨_, rfl⟩, _, rfl⟩

theorem test_witness_PlaybackHasTheSpecLength :
    let u := after (exec (.seqStart PatternId.hornSteady.toBits) (State.resetWith ref))
    let l := [ins 0x60000000 1, ins 0x60000000 2, ins 0x60000000 3, ins 0x60000000 4, ins 0x60000000 5, ins 0x60000000 6]
    exec (.seqStart PatternId.hornSteady.toBits) (State.resetWith ref) = .next u ∧
    FreshTicks refParams (State.resetWith ref).tickIn l ∧ AllCommand .seqUpdate l ∧ l ≠ [] ∧
    l.length = playUpdates (refRom.drop (refParams.patternBase.get .hornSteady)) :=
  ⟨rfl, ⟨by decide, by decide, by decide, by decide, by decide, by decide, trivial⟩, by decide, by decide, by decide⟩

theorem test_witness_IdleSequencerStaysIdle :
    (State.resetWith ref).tse.active = false ∧ AllCommand .seqUpdate [ins 0x60000000 1, ins 0x60000000 1] := by
  exact ⟨rfl, by decide⟩

theorem test_witness_LvgUpdateNeedsATick :
    (st (ins 0x90000000 65536)).pins.tick % 2 ^ (st (ins 0x90000000 65536)).par.tickW = (st (ins 0x90000000 65536)).lvg.lastTick :=
  rfl

theorem test_witness_GuardCallsAreTheCommands : ∃ u, seqUpdate (playing 0 0).begin = .ok (true, u) := ⟨_, rfl⟩

/-- A guard state with an elapsed tick meets the hypotheses the statements about the handlers share. -/
def due (g : Lvg) (dsc : Dsc := ⟨0, false, 0⟩) (cmp : Bool := false) (tse : Tse := ⟨.bellDecay, 0, 2, 0, true⟩) : State :=
  st (ins 0x90000000 1 true cmp) dsc tse g

theorem test_witness_GuardInitArmsAndGoesToKill :
    (due (grd .init)).lvg.state = .init ∧ (due (grd .init)).tickIn ≠ (due (grd .init)).lvg.lastTick := by decide

/-- The three clauses, the last two at the two sides of `guard_timer = 1`. -/
theorem test_witness_GuardKillDecides :
    (due (grd .kill 1) (cmp := true)).pins.cmpTripped = true ∧
    ((due (grd .kill 1)).pins.cmpTripped = false ∧ (due (grd .kill 1)).lvg.guardTimer ≤ 1) ∧
    ((due (grd .kill 2)).pins.cmpTripped = false ∧ 1 < (due (grd .kill 2)).lvg.guardTimer) ∧
    (due (grd .kill 1)).tickIn ≠ (due (grd .kill 1)).lvg.lastTick := by decide

/-- Still playing on its last count, released and pressed; finished, with the flag set and not. -/
theorem test_witness_GuardCheckBellFollowsTheSequencer :
    (∃ u, seqUpdate (due (grd .checkBell) (tse := ⟨.bellDecay, 1, 1, 0, true⟩)).begin.takeGuardTick = .ok (true, u)) ∧
    (∃ u, seqUpdate (due (grd .checkBell) pressed).begin.takeGuardTick = .ok (true, u)) ∧
    (∃ u, seqUpdate (due (grd .checkBell 0 0 4 true) (tse := ⟨.bellDecay, 1, 0, 0, true⟩)).begin.takeGuardTick =
      .ok (false, u)) ∧
    (∃ u, seqUpdate (due (grd .checkBell) (tse := ⟨.bellDecay, 1, 0, 0, true⟩)).begin.takeGuardTick = .ok (false, u)) ∧
    (due (grd .checkBell)).dsc.status = false ∧ (due (grd .checkBell) pressed).dsc.status = true ∧
    (due (grd .checkBell)).tickIn ≠ (due (grd .checkBell)).lvg.lastTick :=
  ⟨⟨_, rfl⟩, ⟨_, rfl⟩, ⟨_, rfl⟩, ⟨_, rfl⟩, rfl, rfl, by decide⟩

/-- Pressed; released with the timer at 2 and the flag set, or at 0 and the flag clear; released with both. -/
theorem test_witness_GuardCheckHornIdleSilencesAndWaits :
    (due (grd .checkHornIdle 1) pressed).dsc.status = true ∧
    1 < (due (grd .checkHornIdle 2 0 0 true)).lvg.guardTimer ∧
    (due (grd .checkHornIdle 0)).lvg.lvSticky = false ∧
    ((due (grd .checkHornIdle 1 0 0 true)).dsc.status = false ∧ (due (grd .checkHornIdle 1 0 0 true)).lvg.guardTimer ≤ 1 ∧
      (due (grd .checkHornIdle 1 0 0 true)).lvg.lvSticky = true) ∧
    (due (grd .checkHornIdle 1)).tickIn ≠ (due (grd .checkHornIdle 1)).lvg.lastTick := by decide

theorem test_witness_GuardCheckHornActiveHonksOrReleases :
    (due (grd .checkHornActive 1 1) pressed).dsc.status = true ∧ (due (grd .checkHornActive)).dsc.status = false ∧
    (due (grd .checkHornActive)).tickIn ≠ (due (grd .checkHornActive)).lvg.lastTick := by decide

theorem test_witness_GuardEndBeepPlaysOrOverrides :
    (due (grd .endBeep) pressed).dsc.status = true ∧
    (∃ u, seqUpdate (due (grd .endBeep) (tse := ⟨.lowBattChime, 0, 1, 0, true⟩)).begin.takeGuardTick = .ok (true, u)) ∧
    (∃ u, seqUpdate (due (grd .endBeep) (tse := ⟨.lowBattChime, 2, 0, 0, true⟩)).begin.takeGuardTick = .ok (false, u)) ∧
    (due (grd .endBeep)).dsc.status = false ∧ (due (grd .endBeep)).tickIn ≠ (due (grd .endBeep)).lvg.lastTick :=
  ⟨rfl, ⟨_, rfl⟩, ⟨_, rfl⟩, rfl, by decide⟩

theorem test_witness_GuardDeadOnlyAssertsRed :
    (due (grd .dead)).lvg.state = .dead ∧ (due (grd .reserved)).lvg.state = .reserved ∧
    (due (grd .dead)).tickIn ≠ (due (grd .dead)).lvg.lastTick := by decide

/-- The state with `charging` on its pins. -/
def charged (s : State) : State := { s with pins := { s.pins with charging := true } }

theorem test_witness_PollIsSwitchThenGuard :
    (∃ u, exec .swUpdate (charged (due (grd .kill))) = .next u) ∧ (charged (due (grd .kill))).pins.charging = true ∧
    (due (grd .kill)).pins.charging = false :=
  ⟨⟨_, rfl⟩, rfl, rfl⟩

theorem test_witness_SecondPollOfATickDoesNothing : ∃ t, exec .poll (due (grd .checkHornActive 1 1) pressed) = .next t :=
  ⟨_, rfl⟩

theorem test_witness_ChargingFreezesTheGuard :
    (charged (due (grd .kill))).pins.charging = true ∧ ∃ t, exec .poll (charged (due (grd .kill))) = .next t :=
  ⟨rfl, _, rfl⟩

/-- The sequencer on the last step of pattern 1, at its last count: the place nearest the sentinel. -/
theorem test_witness_UpdatesComplete : (due (grd .checkBell) (tse := ⟨.bellDecay, 1, 0, 0, true⟩)).InPattern :=
  ⟨by decide, fun _ => ⟨2, by decide, by decide⟩⟩

/-- A state of a run: CHECK_BELL on the last step of pattern 1, its tone programmed. -/
def ringing : State :=
  st (ins 0x90000000 1) ⟨9, true, 0⟩ ⟨.bellDecay, 1, 0, 0, true⟩ (grd .checkBell) ⟨⟨999, 249⟩, false, false, .lowBatt⟩

theorem test_witness_Inv : ringing.Inv := by
  refine ⟨?_, by decide, fun _ => ⟨2, by decide, by decide⟩⟩
  constructor <;> decide

theorem test_witness_StepKeepsInvariant : ∃ t, step ringing = .next t := ⟨_, rfl⟩

theorem test_witness_UpdatesAtTickZeroAfterResetDoNothing : (ins 0x10000000 65536).tick % 2 ^ ref.params.tickW = 0 := by decide

/-- Steps that meet the premise of each latch: red on in DEAD; INIT kept by a `NOP`; the flag kept, and the flag raised. -/
theorem test_witness_LatchesAreOneWay :
    (∃ t, step (st (ins 0x90000000 1) (lvg := grd .dead) (out := ⟨⟨0, 0⟩, false, true, .critical⟩)) = .next t) ∧
    (∃ t, step (st (ins 0 1)) = .next t ∧ t.lvg.state = .init) ∧
    (∃ t, step (due (grd .checkHornActive 9 9 3) pressed true) = .next t ∧ t.lvg.lvSticky = true) ∧
    (∃ t, step (due (grd .checkHornActive 9 9 3 true) pressed) = .next t ∧ t.lvg.lvSticky = true) :=
  ⟨⟨_, rfl⟩, ⟨_, rfl, rfl⟩, ⟨_, rfl, rfl⟩, _, rfl, rfl⟩

theorem test_witness_GuardMovesAlongTheTable : ∃ t, step (due (grd .kill 1)) = .next t ∧ t.lvg.state = .checkHornActive :=
  ⟨_, rfl, rfl⟩

theorem test_witness_DeadIsEnteredOnlyFromKill :
    (∃ t, step (due (grd .kill 1) (cmp := true)) = .next t ∧ t.lvg.state = .dead) ∧
    (∃ t, step (due (grd .dead)) = .next t ∧ t.lvg.state = .dead) :=
  ⟨⟨_, rfl, rfl⟩, _, rfl, rfl⟩

theorem test_witness_StepKeepsMutualExclusion :
    ringing.Exclusive ∧ decodeCommand ringing.pins.cmd = .ok .lvgUpdate ∧ Instr.lvgUpdate.drivesSequencer = false := by
  refine ⟨?_, by decide, by decide⟩
  constructor <;> decide

theorem test_witness_StepKeepsIdleNotSticky :
    (due (grd .checkHornIdle 1)).IdleNotSticky ∧ ∃ t, step (due (grd .checkHornIdle 1)) = .next t :=
  ⟨fun _ => rfl, _, rfl⟩

theorem test_witness_StepKeepsTimersWithinSixteenBits :
    (due (grd .kill 65535 65535)).TimersFit ∧ ∃ t, step (due (grd .kill 65535 65535)) = .next t :=
  ⟨⟨by decide, by decide⟩, _, rfl⟩

/-- A command of each clause: none of the TSE's, the update, the abort, an `END` and a `STEP`. -/
theorem test_witness_CommandsWriteOnlyWhatTheyOwn :
    (∃ t, exec (.pwmCalc 440 50) ringing = .next t) ∧ (∃ t, exec .seqUpdate ringing = .next t) ∧
    (∃ t, exec .seqAbort ringing = .next t) ∧ (∃ t, exec .endWord ringing = .next t) ∧
    (∃ t, exec (.stepWord 3 2000 50) ringing = .next t) :=
  ⟨⟨_, rfl⟩, ⟨_, rfl⟩, ⟨_, rfl⟩, ⟨_, rfl⟩, _, rfl⟩

theorem test_witness_OutputsFollowTheEvents :
    (∃ t, exec .lvgUpdate (due (grd .checkHornIdle 1)) = .next t ∧ t.events ≠ []) ∧
    (State.resetWith ref).outputPins.cmpSel = 0 ∧ ringing.outputPins.cmpSel = 1 :=
  ⟨⟨_, rfl, by decide⟩, by decide, by decide⟩

theorem test_witness_AmountOfTickIsInvisible : (ringing.withTick 1).TickFresh ∧ (ringing.withTick 65535).TickFresh :=
  ⟨⟨by decide, by decide, by decide⟩, by decide, by decide, by decide⟩

/-- Three held ticks with `commit_timer = 2` and `guard_timer = 3`: silent at the first, honking from the second. -/
theorem test_witness_TapIsSilentAndHoldHonks :
    let s := due (grd .checkHornActive 3 2) pressed
    let l := [ins 0x90000000 1, ins 0x90000000 2, ins 0x90000000 3]
    s.lvg.state = .checkHornActive ∧ s.dsc.status = true ∧ s.out.hornOut = false ∧ FreshTicks s.par s.lvg.lastTick l ∧
      AllCommand .lvgUpdate l ∧ l ≠ [] ∧ l.length ≤ max s.lvg.guardTimer 1 :=
  ⟨rfl, rfl, rfl, ⟨by decide, by decide, by decide, trivial⟩, by decide, by decide, by decide⟩

theorem test_witness_AlternatingReadingsNeverConfirm :
    let s := due (grd .checkHornActive 3 2) pressed
    let l := [ins 0x90000000 1 true true, ins 0x90000000 2, ins 0x90000000 3 true true]
    s.lvg.state = .checkHornActive ∧ s.dsc.status = true ∧ s.lvg.lvCount = 0 ∧ s.lvg.lvSticky = false ∧ 2 ≤ s.par.lvConfirm ∧
      FreshTicks s.par s.lvg.lastTick l ∧ AllCommand .lvgUpdate l ∧ Alternating true l ∧
      l.length ≤ max s.lvg.guardTimer 1 :=
  ⟨rfl, rfl, rfl, rfl, by decide, ⟨by decide, by decide, by decide, trivial⟩, by decide, ⟨rfl, rfl, rfl, trivial⟩, by decide⟩

theorem test_witness_TpollIsTicksAndPolls :
    (tpollInputs refParams 2 (ins 0 65535)).2 = [ins 0x10000000 0, ins 0x10000000 1] := by decide

end Sys2Proof.Tests
end

/-! ## The output registers follow the events: R9, R61 -/

namespace Sys2Proof.Machine

/-- The way from `s` to `t` only appends events, and writes the output registers as those events say (R9). -/
def State.EmitsTo (s t : State) : Prop :=
  ∃ es : List Event, t.events = s.events ++ es ∧ t.out = es.foldl Event.applyTo s.out

namespace State.EmitsTo

variable {s t u : State}

/-- A way that touches neither the events nor the output registers. -/
theorem of_eq (hevents : t.events = s.events) (hout : t.out = s.out) : s.EmitsTo t :=
  ⟨[], by simp [hevents], by simp [hout]⟩

theorem refl (s : State) : s.EmitsTo s := of_eq rfl rfl

/-- A way that emits one event and makes the register write that goes with it. -/
theorem of_event (e : Event) (hevents : t.events = s.events ++ [e]) (hout : t.out = e.applyTo s.out) : s.EmitsTo t :=
  ⟨[e], hevents, hout⟩

theorem trans : s.EmitsTo t → t.EmitsTo u → s.EmitsTo u := by
  rintro ⟨es, hes, hout⟩ ⟨fs, hfs, hout'⟩
  exact ⟨es ++ fs, by rw [hfs, hes, List.append_assoc], by rw [hout', hout, List.foldl_append]⟩

end State.EmitsTo

/-! ### The operations -/

theorem setHorn_emits (b : Bool) (s : State) : s.EmitsTo (s.setHorn b) := .of_event (.setHorn b) rfl rfl

theorem setRed_emits (s : State) : s.EmitsTo s.setRed := .of_event (.setIndicator .red true) rfl rfl

theorem enterStep_emits (d f : BitVec 16) (u : BitVec 8) (s : State) : s.EmitsTo (s.enterStep d f u) :=
  .of_event (.programTone (pwmCalc s.par f u)) rfl rfl

theorem hornOff_emits (s : State) : s.EmitsTo s.hornOff :=
  (setHorn_emits false s).trans (.of_event (.programTone ⟨s.out.tone.period, 0⟩) rfl rfl)

theorem endBeepFallthrough_emits (s : State) : s.EmitsTo s.endBeepFallthrough := by
  rw [endBeepFallthrough_eq]
  split
  · exact setRed_emits s
  · exact .refl s

theorem swUpdate_emits (s : State) : s.EmitsTo s.swUpdate := .of_eq (swUpdate_events s) (swUpdate_out s)

theorem seqStart_emits (p : PatternId) (s : State) : s.EmitsTo (s.seqStart p) := by
  rw [seqStart_eq]
  split
  · exact .of_eq rfl rfl
  · exact .of_event _ rfl rfl

theorem seqUpdate_emits {s t : State} {playing : Bool} (h : seqUpdate s = .ok (playing, t)) : s.EmitsTo t := by
  rcases seqUpdate_cases h with ⟨-, -, rfl⟩ | ⟨-, -, -, rfl⟩ | ⟨-, -, -, -, rfl⟩ | ⟨_, -, -, -, -, -, -, rfl⟩ |
    ⟨w, -, -, -, -, -, -, rfl⟩
  · exact .refl _
  · exact .of_eq rfl rfl
  · exact .of_eq rfl rfl
  · exact .of_eq rfl rfl
  · exact .of_event (.programTone (pwmCalc s.par (stepFreq w) (stepDuty w))) rfl rfl

/-! ### The handlers of the guard -/

theorem guardInit_emits (sw : Bool) (s : State) : s.EmitsTo (guardInit sw s) :=
  .of_event (.setCmpThreshold .critical) rfl rfl

theorem guardKill_emits (s : State) : s.EmitsTo (guardKill s) := by
  rw [guardKill_eq]
  split_ifs
  · exact .of_eq rfl rfl
  · exact .of_event (.setCmpThreshold .lowBatt) rfl rfl
  · exact .of_eq rfl rfl

theorem guardCheckBell_emits {sw : Bool} {s t : State} (h : guardCheckBell sw s = .ok t) : s.EmitsTo t := by
  obtain ⟨playing, u, hu, hcases⟩ := guardCheckBell_cases h
  refine (seqUpdate_emits hu).trans ?_
  rcases hcases with ⟨-, -, rfl⟩ | ⟨-, -, rfl⟩ | ⟨-, -, rfl⟩ | ⟨-, -, rfl⟩
  · exact .of_eq rfl rfl
  · exact .refl _
  · exact (seqStart_emits .lowBattChime u).trans (.of_eq rfl rfl)
  · exact .of_eq rfl rfl

theorem guardCheckHornIdle_emits (sw : Bool) (s : State) : s.EmitsTo (guardCheckHornIdle sw s) := by
  rw [guardCheckHornIdle_eq]
  refine (hornOff_emits s).trans ?_
  split_ifs
  · exact .of_eq rfl rfl
  · exact (seqStart_emits .lowBattChime s.hornOff.countGuardTimer).trans (.of_eq rfl rfl)
  · exact .of_eq rfl rfl

/-- A held tick drives the horn from the tick in which the commit timer elapses, and does nothing else to the outputs
(R138). -/
theorem guardHeldTick_emits (s : State) : s.EmitsTo (guardHeldTick s) := by
  rw [guardHeldTick_eq]
  by_cases hcommit : s.lvg.commitTimer ≤ 1
  · exact .of_event (.setHorn true) (by simp [hcommit]) (by simp [hcommit, Event.applyTo])
  · exact .of_eq (by simp [hcommit]) (by simp [hcommit])

theorem guardCheckHornActive_emits (sw : Bool) (s : State) : s.EmitsTo (guardCheckHornActive sw s) := by
  rw [guardCheckHornActive_eq]
  split
  · exact guardHeldTick_emits s
  · exact ((setHorn_emits false s).trans (seqStart_emits s.lvg.selPattern _)).trans (.of_eq rfl rfl)

theorem guardEndBeep_emits {sw : Bool} {s t : State} (h : guardEndBeep sw s = .ok t) : s.EmitsTo t := by
  rcases guardEndBeep_cases h with ⟨-, rfl⟩ | ⟨u, -, hu, rfl⟩ | ⟨u, -, hu, rfl⟩
  · have hpress : s.EmitsTo s.seqAbort.enterActive := .of_eq rfl rfl
    exact hpress.trans (endBeepFallthrough_emits _)
  · exact (seqUpdate_emits hu).trans (endBeepFallthrough_emits u)
  · have hdone : u.EmitsTo (u.hornOff.armGuardTimer 0) := (hornOff_emits u).trans (.of_eq rfl rfl)
    exact ((seqUpdate_emits hu).trans hdone).trans (endBeepFallthrough_emits _)

theorem lvgUpdate_emits {s t : State} (h : lvgUpdate s = .ok t) : s.EmitsTo t := by
  have htake : s.EmitsTo s.takeGuardTick := .of_eq rfl rfl
  rcases lvgUpdate_cases h with ⟨-, rfl⟩ | ⟨-, ⟨-, rfl⟩ | ⟨-, rfl⟩ | ⟨-, hb⟩ | ⟨-, rfl⟩ | ⟨-, rfl⟩ | ⟨-, he⟩ | ⟨-, rfl⟩⟩
  · exact .refl _
  · exact htake.trans (guardInit_emits _ _)
  · exact htake.trans (guardKill_emits _)
  · exact htake.trans (guardCheckBell_emits hb)
  · exact htake.trans (guardCheckHornIdle_emits _ _)
  · exact htake.trans (guardCheckHornActive_emits _ _)
  · exact htake.trans (guardEndBeep_emits he)
  · exact htake.trans (setRed_emits _)

/-! ### The instructions -/

theorem poll_emits {s t : State} (h : poll s = .ok t) : s.EmitsTo t := by
  rcases poll_cases h with ⟨-, rfl⟩ | ⟨-, hg⟩
  · exact swUpdate_emits s
  · exact (swUpdate_emits s).trans (lvgUpdate_emits hg)

/-- `SEQ_UPDATE` is the update with its answer as the result (R112). -/
theorem execSeqUpdate_eq_next {s t : State} (h : execSeqUpdate s = .next t) :
    ∃ playing u, seqUpdate s.begin = .ok (playing, u) ∧ t = u.setResBool playing := by
  rw [execSeqUpdate, outcomeOf_eq_next] at h
  cases hu : seqUpdate s.begin with
  | error f => simp [hu, Except.map] at h
  | ok r => exact ⟨r.1, r.2, rfl, by simpa [hu, Except.map] using h.symm⟩

theorem execSeqStart_emits {pat : BitVec 3} {s t : State} (h : execSeqStart pat s = .next t) : s.begin.EmitsTo t := by
  unfold execSeqStart at h
  split at h <;> cases h
  · exact seqStart_emits _ _
  · exact .of_eq rfl rfl

theorem execStepWord_emits {d f : BitVec 16} {u : BitVec 8} {s t : State} (h : execStepWord d f u s = .next t) :
    s.begin.EmitsTo t := by
  unfold execStepWord at h
  cases h
  split
  · exact .of_eq rfl rfl
  · exact enterStep_emits d f u s.begin

/-- Every instruction starts with no event and from there writes the output registers only as its events say (R9, R61). -/
theorem exec_emits {i : Instr} {s t : State} (h : exec i s = .next t) : s.begin.EmitsTo t := by
  cases i with
  | nop => cases h; exact .refl _
  | poll => exact poll_emits (outcomeOf_eq_next.mp h)
  | swUpdate => cases h; exact swUpdate_emits _
  | swGet => cases h; exact .of_eq rfl rfl
  | swClear => cases h; exact .of_eq rfl rfl
  | seqStart pat => exact execSeqStart_emits h
  | seqUpdate =>
    obtain ⟨playing, u, hu, rfl⟩ := execSeqUpdate_eq_next h
    exact (seqUpdate_emits hu).trans (.of_eq rfl rfl)
  | seqAbort => cases h; exact .of_eq rfl rfl
  | pwmCalc freq duty => cases h; exact .of_eq rfl rfl
  | lvgUpdate => exact lvgUpdate_emits (outcomeOf_eq_next.mp h)
  | stepWord d f u => exact execStepWord_emits h
  | endWord => cases h; exact .of_eq rfl rfl

/-- The number on the pin `cmp_sel` tells which DAC code is in force (R76). -/
theorem dacCode_of_cmpSel_pin (s : State) :
    (s.outputPins.cmpSel = 0 → s.dacCode = s.par.dacCritical) ∧
      (s.outputPins.cmpSel = 1 → s.dacCode = s.par.dacLowBatt) := by
  cases hsel : s.out.cmpSel <;> simp [State.outputPins, State.dacCode, CmpLevel.toBits, hsel]

/-- Settles O55: an instruction starts with an empty trace, so the events its operations emit on the way are its whole
trace; the numbers on the pins are read off their definitions. -/
theorem outputsFollowTheEvents : Obligations.OutputsFollowTheEvents := by
  refine ⟨fun i s t h => ?_, fun _ => rfl, ⟨rfl, rfl, rfl, rfl, rfl, rfl, rfl, rfl⟩, ⟨rfl, rfl⟩, ⟨rfl, rfl⟩,
    dacCode_of_cmpSel_pin⟩
  obtain ⟨es, hevents, hout⟩ := exec_emits h
  rw [hout, hevents, State.begin_events, State.begin_out, List.nil_append]

end Sys2Proof.Machine

/-! ## By how much the tick moved is invisible: R8

Operations that no gate guards do the same to a state and to that state without its ticks.  An operation behind a gate is
compared on two states that are alike but for their ticks, with the gate open in both. -/

namespace Sys2Proof.Machine

/-! ### What is left of a state without its ticks -/

section
variable (s : State)

@[simp] theorem forgetTicks_tse : s.forgetTicks.tse = { s.tse with lastTick := 0 } := rfl
@[simp] theorem forgetTicks_lvg : s.forgetTicks.lvg = { s.lvg with lastTick := 0 } := rfl
@[simp] theorem forgetTicks_config : s.forgetTicks.config = s.config := rfl
@[simp] theorem forgetTicks_par : s.forgetTicks.par = s.par := rfl
@[simp] theorem forgetTicks_tickIn : s.forgetTicks.tickIn = 0 := Nat.zero_mod _

/-! ### Operations that no gate guards -/

@[simp] theorem begin_forgetTicks : s.begin.forgetTicks = s.forgetTicks.begin := rfl
@[simp] theorem reservedCommand_forgetTicks : s.reservedCommand.forgetTicks = s.forgetTicks.reservedCommand := rfl
@[simp] theorem setResBool_forgetTicks (b : Bool) : (s.setResBool b).forgetTicks = s.forgetTicks.setResBool b := rfl
@[simp] theorem setResTone_forgetTicks (t : Tone) : (s.setResTone t).forgetTicks = s.forgetTicks.setResTone t := rfl
@[simp] theorem setHorn_forgetTicks (b : Bool) : (s.setHorn b).forgetTicks = s.forgetTicks.setHorn b := rfl
@[simp] theorem hornOff_forgetTicks : s.hornOff.forgetTicks = s.forgetTicks.hornOff := rfl
@[simp] theorem armGuardTimer_forgetTicks (v : Nat) :
    (s.armGuardTimer v).forgetTicks = s.forgetTicks.armGuardTimer v := rfl
@[simp] theorem goTo_forgetTicks (g : GuardState) : (s.goTo g).forgetTicks = s.forgetTicks.goTo g := rfl
@[simp] theorem enterActive_forgetTicks : s.enterActive.forgetTicks = s.forgetTicks.enterActive := rfl
@[simp] theorem swClear_forgetTicks : s.swClear.forgetTicks = s.forgetTicks.swClear := rfl
@[simp] theorem seqAbort_forgetTicks : s.seqAbort.forgetTicks = s.forgetTicks.seqAbort := rfl
@[simp] theorem reachEnd_forgetTicks : s.reachEnd.forgetTicks = s.forgetTicks.reachEnd := rfl
@[simp] theorem countStep_forgetTicks : s.countStep.forgetTicks = s.forgetTicks.countStep := rfl
@[simp] theorem advanceIndex_forgetTicks : s.advanceIndex.forgetTicks = s.forgetTicks.advanceIndex := rfl
@[simp] theorem enterStep_forgetTicks (d f : BitVec 16) (u : BitVec 8) :
    (s.enterStep d f u).forgetTicks = s.forgetTicks.enterStep d f u := rfl
@[simp] theorem takeSwTick_forgetTicks : s.takeSwTick.forgetTicks = s.forgetTicks := rfl
@[simp] theorem takeSeqTick_forgetTicks : s.takeSeqTick.forgetTicks = s.forgetTicks := rfl
@[simp] theorem takeGuardTick_forgetTicks : s.takeGuardTick.forgetTicks = s.forgetTicks := rfl

@[simp] theorem endBeepFallthrough_forgetTicks :
    s.endBeepFallthrough.forgetTicks = s.forgetTicks.endBeepFallthrough := by
  simp only [endBeepFallthrough_eq, apply_ite State.forgetTicks]
  rfl

@[simp] theorem seqStart_forgetTicks (p : PatternId) : (s.seqStart p).forgetTicks = s.forgetTicks.seqStart p := by
  simp only [seqStart_eq, forgetTicks_config, forgetTicks_tickIn]
  split <;> rfl

@[simp] theorem swActiveSample_forgetTicks : s.swActiveSample.forgetTicks = s.forgetTicks.swActiveSample := by
  simp only [State.swActiveSample, apply_ite State.forgetTicks]
  rfl

@[simp] theorem swInactiveSample_forgetTicks : s.swInactiveSample.forgetTicks = s.forgetTicks.swInactiveSample := by
  simp only [State.swInactiveSample, apply_ite State.forgetTicks]
  rfl

/-! ### The handlers of the guard that no gate guards -/

@[simp] theorem guardInit_forgetTicks (sw : Bool) : (guardInit sw s).forgetTicks = guardInit sw s.forgetTicks := rfl

@[simp] theorem guardKill_forgetTicks : (guardKill s).forgetTicks = guardKill s.forgetTicks := by
  simp only [guardKill_eq, apply_ite State.forgetTicks]
  rfl

@[simp] theorem guardCheckHornIdle_forgetTicks (sw : Bool) :
    (guardCheckHornIdle sw s).forgetTicks = guardCheckHornIdle sw s.forgetTicks := by
  simp only [guardCheckHornIdle_eq, apply_ite State.forgetTicks, goTo_forgetTicks, seqStart_forgetTicks]
  rfl

@[simp] theorem guardHeldTick_forgetTicks : (guardHeldTick s).forgetTicks = guardHeldTick s.forgetTicks := by
  rw [guardHeldTick_eq, guardHeldTick_eq]
  rfl

@[simp] theorem guardCheckHornActive_forgetTicks (sw : Bool) :
    (guardCheckHornActive sw s).forgetTicks = guardCheckHornActive sw s.forgetTicks := by
  simp [guardCheckHornActive_eq, apply_ite State.forgetTicks]

@[simp] theorem guardDead_forgetTicks : (guardDead s).forgetTicks = guardDead s.forgetTicks := rfl

end

/-! ### Outcomes without their ticks -/

@[simp] theorem forgetOutcomeTicks_next (s : State) : forgetOutcomeTicks (.next s) = .next s.forgetTicks := rfl

theorem forgetOutcomeTicks_outcomeOf (r : Except Fault State) :
    forgetOutcomeTicks (outcomeOf r) = outcomeOf (r.map State.forgetTicks) := by
  cases r <;> rfl

/-! ### Operations behind a gate -/

section
variable {s t : State}

theorem swUpdate_forgetTicks_of_tick (hs : s.tickIn ≠ s.dsc.lastTick) :
    s.swUpdate.forgetTicks =
      if s.forgetTicks.switchActive then s.forgetTicks.swActiveSample else s.forgetTicks.swInactiveSample := by
  simp only [State.swUpdate, hs, if_false, apply_ite State.forgetTicks, swActiveSample_forgetTicks,
    swInactiveSample_forgetTicks, takeSwTick_forgetTicks]
  rfl

theorem swUpdate_tickBlind (h : s.forgetTicks = t.forgetTicks) (hs : s.tickIn ≠ s.dsc.lastTick)
    (ht : t.tickIn ≠ t.dsc.lastTick) : s.swUpdate.forgetTicks = t.swUpdate.forgetTicks := by
  rw [swUpdate_forgetTicks_of_tick hs, swUpdate_forgetTicks_of_tick ht, h]

/-- The answer of `SeqUpdate` without what its state remembers of the tick. -/
def forgetPlayingTicks : Except Fault (Bool × State) → Except Fault (Bool × State) :=
  Except.map fun r => (r.1, r.2.forgetTicks)

@[simp] theorem forgetPlayingTicks_ok (r : Bool × State) :
    forgetPlayingTicks (.ok r) = .ok (r.1, r.2.forgetTicks) := rfl
@[simp] theorem forgetPlayingTicks_error (f : Fault) : forgetPlayingTicks (.error f) = .error f := rfl

/-- What an update of the sequencer does once a tick has elapsed (R112), on a state without its ticks. -/
def seqUpdateDue (s : State) : Except Fault (Bool × State) :=
  if s.tse.active = false then .ok (false, s)
  else if 0 < s.tse.remaining then .ok (true, s.countStep)
  else
    (romRead s.par (stepAddress s.par s.tse.pattern (s.tse.index + 1))).map fun w =>
      if stepDuration w = 0#16 then (false, s.reachEnd)
      else (true, s.advanceIndex.enterStep (stepDuration w) (stepFreq w) (stepDuty w))

theorem seqUpdate_forgetTicks_of_tick (hs : s.tickIn ≠ s.tse.lastTick) :
    forgetPlayingTicks (seqUpdate s) = seqUpdateDue s.forgetTicks := by
  unfold seqUpdate seqUpdateDue
  by_cases hactive : s.tse.active = false
  · simp [hs, hactive]
  by_cases hremaining : 0 < s.tse.remaining
  · simp [hs, hactive, hremaining]
  cases hread : romRead s.par (stepAddress s.par s.tse.pattern (s.tse.index + 1)) with
  | error f => simp [hs, hactive, hremaining, hread, Except.map]
  | ok w => by_cases hend : stepDuration w = 0#16 <;> simp [hs, hactive, hremaining, hread, hend, Except.map]

theorem seqUpdate_tickBlind (h : s.forgetTicks = t.forgetTicks) (hs : s.tickIn ≠ s.tse.lastTick)
    (ht : t.tickIn ≠ t.tse.lastTick) : forgetPlayingTicks (seqUpdate s) = forgetPlayingTicks (seqUpdate t) := by
  rw [seqUpdate_forgetTicks_of_tick hs, seqUpdate_forgetTicks_of_tick ht, h]

/-- Two sequencer updates alike but for their ticks either raise the same fault, or report the same and leave states alike
but for their ticks. -/
theorem seqUpdate_pair_cases (h : s.forgetTicks = t.forgetTicks) (hs : s.tickIn ≠ s.tse.lastTick)
    (ht : t.tickIn ≠ t.tse.lastTick) :
    (∃ f, seqUpdate s = .error f ∧ seqUpdate t = .error f) ∨
      ∃ playing u v, seqUpdate s = .ok (playing, u) ∧ seqUpdate t = .ok (playing, v) ∧
        u.forgetTicks = v.forgetTicks := by
  have hblind := seqUpdate_tickBlind h hs ht
  cases hu : seqUpdate s with
  | error f =>
    cases hv : seqUpdate t with
    | error g =>
      have hfg : f = g := by simpa [hu, hv] using hblind
      exact .inl ⟨f, rfl, by rw [hfg]⟩
    | ok b => simp [hu, hv] at hblind
  | ok a =>
    cases hv : seqUpdate t with
    | error g => simp [hu, hv] at hblind
    | ok b =>
      have hab : a.1 = b.1 ∧ a.2.forgetTicks = b.2.forgetTicks := by simpa [hu, hv] using hblind
      exact .inr ⟨a.1, a.2, b.2, rfl, by rw [hab.1], hab.2⟩

theorem guardCheckBell_tickBlind (sw : Bool) (h : s.forgetTicks = t.forgetTicks)
    (hs : s.tickIn ≠ s.tse.lastTick) (ht : t.tickIn ≠ t.tse.lastTick) :
    (guardCheckBell sw s).map State.forgetTicks = (guardCheckBell sw t).map State.forgetTicks := by
  rcases seqUpdate_pair_cases h hs ht with ⟨f, hu, hv⟩ | ⟨playing, u, v, hu, hv, huv⟩
  · simp only [guardCheckBell, hu, hv]
  have hsticky : u.lvg.lvSticky = v.lvg.lvSticky := congrArg (·.lvg.lvSticky) huv
  have hpar : u.par = v.par := congrArg (·.par) huv
  cases playing
  case true => cases sw <;> simp [guardCheckBell, hu, hv, Except.map, huv]
  case false =>
    cases hv' : v.lvg.lvSticky <;>
      simp [guardCheckBell, hu, hv, Except.map, huv, hsticky, hv', hpar]

theorem guardEndBeep_tickBlind (sw : Bool) (h : s.forgetTicks = t.forgetTicks)
    (hs : s.tickIn ≠ s.tse.lastTick) (ht : t.tickIn ≠ t.tse.lastTick) :
    (guardEndBeep sw s).map State.forgetTicks = (guardEndBeep sw t).map State.forgetTicks := by
  cases sw
  case true => simp [guardEndBeep, Except.map, h]
  case false =>
    rcases seqUpdate_pair_cases h hs ht with ⟨f, hu, hv⟩ | ⟨playing, u, v, hu, hv, huv⟩
    · simp [guardEndBeep, hu, hv]
    · cases playing <;> simp [guardEndBeep, hu, hv, Except.map, huv]

theorem guardHandler_tickBlind (sw : Bool) (h : s.forgetTicks = t.forgetTicks)
    (hs : s.tickIn ≠ s.tse.lastTick) (ht : t.tickIn ≠ t.tse.lastTick) :
    (guardHandler sw s).map State.forgetTicks = (guardHandler sw t).map State.forgetTicks := by
  have hstate : s.lvg.state = t.lvg.state := congrArg (·.lvg.state) h
  unfold guardHandler
  rw [hstate]
  cases t.lvg.state
  case checkBell => exact guardCheckBell_tickBlind sw h hs ht
  case endBeep => exact guardEndBeep_tickBlind sw h hs ht
  all_goals simp [Except.map, h]

theorem lvgUpdate_tickBlind (h : s.forgetTicks = t.forgetTicks)
    (hs : s.tickIn ≠ s.tse.lastTick) (ht : t.tickIn ≠ t.tse.lastTick)
    (hs' : s.tickIn ≠ s.lvg.lastTick) (ht' : t.tickIn ≠ t.lvg.lastTick) :
    (lvgUpdate s).map State.forgetTicks = (lvgUpdate t).map State.forgetTicks := by
  have hstatus : s.dsc.status = t.dsc.status := congrArg (·.dsc.status) h
  rw [lvgUpdate_of_tick hs', lvgUpdate_of_tick ht', hstatus]
  exact guardHandler_tickBlind _ (by simpa using h) hs ht

theorem poll_tickBlind (h : s.forgetTicks = t.forgetTicks) (hs : s.TickFresh) (ht : t.TickFresh) :
    (poll s).map State.forgetTicks = (poll t).map State.forgetTicks := by
  obtain ⟨hsw, hseq, hlvg⟩ := hs
  obtain ⟨hsw', hseq', hlvg'⟩ := ht
  have hupdated := swUpdate_tickBlind h hsw hsw'
  have hcharging : s.pins.charging = t.pins.charging := congrArg (·.pins.charging) h
  cases hc : t.pins.charging
  case true => simp [poll, hcharging, hc, Except.map, hupdated]
  case false =>
    simp only [poll, swUpdate_pins, hcharging, hc, Bool.false_eq_true, if_false]
    exact lvgUpdate_tickBlind hupdated (by simpa using hseq) (by simpa using hseq') (by simpa using hlvg)
      (by simpa using hlvg')

theorem execSeqUpdate_tickBlind (h : s.forgetTicks = t.forgetTicks) (hs : s.tickIn ≠ s.tse.lastTick)
    (ht : t.tickIn ≠ t.tse.lastTick) :
    forgetOutcomeTicks (execSeqUpdate s) = forgetOutcomeTicks (execSeqUpdate t) := by
  have hbegin : s.begin.forgetTicks = t.begin.forgetTicks := by simp [h]
  rcases seqUpdate_pair_cases hbegin hs ht with ⟨f, hu, hv⟩ | ⟨playing, u, v, hu, hv, huv⟩
  · simp [execSeqUpdate, hu, hv, Except.map]
  · simp [execSeqUpdate, hu, hv, Except.map, huv]

theorem execSeqStart_tickBlind (pat : BitVec 3) (h : s.forgetTicks = t.forgetTicks) :
    forgetOutcomeTicks (execSeqStart pat s) = forgetOutcomeTicks (execSeqStart pat t) := by
  cases hpat : PatternId.ofBits pat <;> simp [execSeqStart, hpat, h]

/-- With every gate open, an instruction does the same to two states that are alike but for their ticks. -/
theorem exec_tickBlind (i : Instr) (h : s.forgetTicks = t.forgetTicks) (hs : s.TickFresh) (ht : t.TickFresh) :
    forgetOutcomeTicks (exec i s) = forgetOutcomeTicks (exec i t) := by
  have hbegin : s.begin.forgetTicks = t.begin.forgetTicks := by simp [h]
  obtain ⟨hsw, hseq, hlvg⟩ := hs
  obtain ⟨hsw', hseq', hlvg'⟩ := ht
  cases i with
  | nop => simp [exec, execNop, h]
  | poll =>
    simp only [exec, execPoll, forgetOutcomeTicks_outcomeOf]
    rw [poll_tickBlind hbegin ⟨hsw, hseq, hlvg⟩ ⟨hsw', hseq', hlvg'⟩]
  | swUpdate => exact congrArg Host.Outcome.next (swUpdate_tickBlind hbegin hsw hsw')
  | swGet =>
    have hstatus : s.dsc.status = t.dsc.status := congrArg (·.dsc.status) h
    simp [exec, execSwGet, h, hstatus]
  | swClear => simp [exec, execSwClear, h]
  | seqStart pat => exact execSeqStart_tickBlind pat h
  | seqUpdate => exact execSeqUpdate_tickBlind h hseq hseq'
  | seqAbort => simp [exec, execSeqAbort, h]
  | pwmCalc freq duty =>
    have hpar : s.par = t.par := congrArg (·.par) h
    simp [exec, execPwmCalc, h, hpar]
  | lvgUpdate =>
    simp only [exec, execLvgUpdate, forgetOutcomeTicks_outcomeOf]
    rw [lvgUpdate_tickBlind hbegin hseq hseq' hlvg hlvg']
  | stepWord d f u => simp [exec, execStepWord, apply_ite State.forgetTicks, h]
  | endWord => simp [exec, execEndWord, h]

end

/-- Settles O56: two ticks put on the pins of one state give states that are alike but for their ticks. -/
theorem amountOfTickIsInvisible : Obligations.AmountOfTickIsInvisible :=
  fun i _ _ _ ha hb => exec_tickBlind i rfl ha hb

end Sys2Proof.Machine

/-! ## Accepted parameter records: R3 to R6 -/

namespace Sys2Proof

/-- The first sentinel stands at `n` exactly if `n` holds an `END` and every earlier place a `STEP`. -/
theorem firstEnd_eq_some_iff {ws : List StepWord} {n : Nat} :
    firstEnd ws = some n ↔
      (∃ w, ws[n]? = some w ∧ stepDuration w = 0#16) ∧
        ∀ m < n, ∃ w, ws[m]? = some w ∧ stepDuration w ≠ 0#16 := by
  constructor
  · exact Machine.firstEnd_getElem?
  · rintro ⟨hend, hsteps⟩
    induction ws generalizing n with
    | nil => simp at hend
    | cons v vs ih =>
      cases n with
      | zero => simpa [firstEnd] using hend
      | succ n =>
        have hv : stepDuration v ≠ 0#16 := by simpa using hsteps 0 (Nat.succ_pos n)
        have htail : firstEnd vs = some n :=
          ih (by simpa using hend) fun m hm => by simpa using hsteps (m + 1) (by omega)
        simp [firstEnd, hv, htail]

theorem Params.patternOk_iff (p : Params) (id : PatternId) :
    p.patternOk id = true ↔ ∃ n, n < 2 ^ p.idxW ∧ p.patternLength id = some n := by
  cases h : p.patternLength id <;> simp [Params.patternOk, h]

theorem Params.romOk_iff (p : Params) : p.romOk = true ↔ ∀ id, p.patternOk id = true := by
  refine ⟨fun h id => ?_, fun h => by simp [Params.romOk, h]⟩
  simp only [Params.romOk, Bool.and_eq_true] at h
  cases id <;> simp [h]

/-- Rule R6 in the terms of the ROM's addresses. -/
theorem Params.romOk_iff_words (p : Params) :
    p.romOk = true ↔ ∀ id : PatternId, ∃ n, n < 2 ^ p.idxW ∧
      (∃ w, p.patternRom[p.patternBase.get id + n]? = some w ∧ stepDuration w = 0#16) ∧
      ∀ m < n, ∃ w, p.patternRom[p.patternBase.get id + m]? = some w ∧ stepDuration w ≠ 0#16 := by
  simp only [Params.romOk_iff, Params.patternOk_iff, Params.patternLength, firstEnd_eq_some_iff, List.getElem?_drop]

theorem Params.ok_iff (p : Params) :
    p.ok = true ↔ p.dscOk = true ∧ p.pdcOk = true ∧ p.lvgOk = true ∧ p.romOk = true := by
  simp only [Params.ok, Bool.and_eq_true, and_assoc]

/-- A record is accepted, and then as it stands, exactly if it passes the check. -/
theorem Config.ofParams_accepts_iff (p : Params) :
    (∃ c, Config.ofParams p = .ok c ∧ c.params = p) ↔ p.ok = true := by
  refine ⟨fun ⟨c, _, hc⟩ => hc ▸ c.ok, fun h => ⟨⟨p, h⟩, ?_, rfl⟩⟩
  simp only [Config.ofParams, h, dif_pos]

/-- Settles O59: each boolean check is its rule written out, and for R6 the search for the first sentinel is the statement
about the words at the pattern's addresses. -/
theorem acceptedConfigurationsAreTheSpecs : Obligations.AcceptedConfigurationsAreTheSpecs := by
  intro p
  rw [Config.ofParams_accepts_iff, Params.ok_iff, Params.romOk_iff_words]
  simp only [Params.dscOk, Params.pdcOk, Params.lvgOk, decide_eq_true_eq, and_assoc]

end Sys2Proof

/-! ## What each command leaves unchanged: R21 and the access summary of spec/10_state.md section 8 -/

namespace Sys2Proof.Machine

/-! ### The registers of one sub-block -/

/-- From `s` to `t` only the TSE registers and the tone change, beside the outputs of the command. -/
structure State.WritesOnlySequencer (s t : State) : Prop where
  dsc : t.dsc = s.dsc
  lvg : t.lvg = s.lvg
  hornOut : t.out.hornOut = s.out.hornOut
  indRed : t.out.indRed = s.out.indRed
  cmpSel : t.out.cmpSel = s.out.cmpSel
  config : t.config = s.config
  pins : t.pins = s.pins
  upcoming : t.upcoming = s.upcoming

/-- From `s` to `t` only the DSC registers change, beside the outputs of the command. -/
structure State.WritesOnlySwitch (s t : State) : Prop where
  tse : t.tse = s.tse
  out : t.out = s.out
  lvg : t.lvg = s.lvg
  config : t.config = s.config
  pins : t.pins = s.pins
  upcoming : t.upcoming = s.upcoming

section
variable {i : Instr} {s t : State}

theorem execSeqStart_writesOnlySequencer {pat : BitVec 3} (h : execSeqStart pat s = .next t) :
    s.WritesOnlySequencer t := by
  unfold execSeqStart at h
  split at h <;> cases h <;> constructor <;> simp

theorem execSeqUpdate_writesOnlySequencer (h : execSeqUpdate s = .next t) : s.WritesOnlySequencer t := by
  obtain ⟨playing, u, hu, rfl⟩ := execSeqUpdate_eq_next h
  obtain ⟨hdsc, hlvg, hconfig, hpins, hupcoming, -, hhorn, hred, hcmp, -⟩ := seqUpdate_frame hu
  exact ⟨hdsc, hlvg, hhorn, hred, hcmp, hconfig, hpins, hupcoming⟩

theorem execStepWord_writesOnlySequencer {d f : BitVec 16} {u : BitVec 8} (h : execStepWord d f u s = .next t) :
    s.WritesOnlySequencer t := by
  cases h
  split <;> constructor <;> rfl

/-- The TSE commands and the step words write the TSE registers and the tone at most. -/
theorem exec_writesOnlySequencer (hi : i.drivesSequencer = true) (h : exec i s = .next t) :
    s.WritesOnlySequencer t := by
  cases i with
  | seqStart pat => exact execSeqStart_writesOnlySequencer h
  | seqUpdate => exact execSeqUpdate_writesOnlySequencer h
  | seqAbort => cases h; constructor <;> rfl
  | stepWord d f u => exact execStepWord_writesOnlySequencer h
  | endWord => cases h; constructor <;> rfl
  | nop | poll | swUpdate | swGet | swClear | pwmCalc _ _ | lvgUpdate => cases hi

/-- The other commands, but for the two that run the guard, write the DSC registers at most. -/
theorem exec_writesOnlySwitch (hi : i.drivesSequencer = false) (hpoll : i ≠ .poll) (hlvg : i ≠ .lvgUpdate)
    (h : exec i s = .next t) : s.WritesOnlySwitch t := by
  cases i with
  | swUpdate => cases h; constructor <;> simp
  | nop | swGet | swClear | pwmCalc _ _ => cases h; constructor <;> rfl
  | poll => exact absurd rfl hpoll
  | lvgUpdate => exact absurd rfl hlvg
  | seqStart _ | seqUpdate | seqAbort | stepWord _ _ _ | endWord => cases hi

/-! ### The columns of the access summary -/

theorem poll_keepsInputs (h : poll s = .ok t) :
    t.config = s.config ∧ t.pins = s.pins ∧ t.upcoming = s.upcoming := by
  rcases poll_cases h with ⟨-, rfl⟩ | ⟨-, hg⟩
  · simp
  · obtain ⟨hconfig, hpins, hupcoming, -⟩ := lvgUpdate_frame hg
    simp [hconfig, hpins, hupcoming]

/-- No command writes the configuration (R2) or the inputs (R26). -/
theorem exec_keepsInputs (h : exec i s = .next t) :
    t.config = s.config ∧ t.pins = s.pins ∧ t.upcoming = s.upcoming := by
  by_cases hpoll : i = .poll
  · subst hpoll
    exact poll_keepsInputs (s := s.begin) (outcomeOf_eq_next.mp h)
  by_cases hlvg : i = .lvgUpdate
  · subst hlvg
    obtain ⟨hconfig, hpins, hupcoming, -⟩ := lvgUpdate_frame (outcomeOf_eq_next.mp h)
    exact ⟨hconfig, hpins, hupcoming⟩
  cases hi : i.drivesSequencer
  case true =>
    have hw := exec_writesOnlySequencer hi h
    exact ⟨hw.config, hw.pins, hw.upcoming⟩
  case false =>
    have hw := exec_writesOnlySwitch hi hpoll hlvg h
    exact ⟨hw.config, hw.pins, hw.upcoming⟩

theorem exec_keepsDsc (hupdate : i ≠ .swUpdate) (hclear : i ≠ .swClear) (hpoll : i ≠ .poll) (hlvg : i ≠ .lvgUpdate)
    (h : exec i s = .next t) : t.dsc = s.dsc := by
  cases hi : i.drivesSequencer
  case true => exact (exec_writesOnlySequencer hi h).dsc
  case false =>
    cases i with
    | nop | swGet | pwmCalc _ _ => cases h; rfl
    | swUpdate => exact absurd rfl hupdate
    | swClear => exact absurd rfl hclear
    | poll => exact absurd rfl hpoll
    | lvgUpdate => exact absurd rfl hlvg
    | seqStart _ | seqUpdate | seqAbort | stepWord _ _ _ | endWord => cases hi

theorem exec_keepsSwitchCounter (hupdate : i ≠ .swUpdate) (hpoll : i ≠ .poll) (h : exec i s = .next t) :
    t.dsc.count = s.dsc.count ∧ t.dsc.lastTick = s.dsc.lastTick := by
  by_cases hclear : i = .swClear
  · subst hclear; cases h; exact ⟨rfl, rfl⟩
  by_cases hlvg : i = .lvgUpdate
  · subst hlvg
    obtain ⟨-, -, -, -, hcount, htick, -⟩ := lvgUpdate_frame (outcomeOf_eq_next.mp h)
    exact ⟨hcount, htick⟩
  · simp [exec_keepsDsc hupdate hclear hpoll hlvg h]

/-- Only the two commands that run the guard write the LVG registers and the output registers other than the tone. -/
theorem exec_keepsGuard (hpoll : i ≠ .poll) (hlvg : i ≠ .lvgUpdate) (h : exec i s = .next t) :
    t.lvg = s.lvg ∧ t.out.hornOut = s.out.hornOut ∧ t.out.indRed = s.out.indRed ∧ t.out.cmpSel = s.out.cmpSel := by
  cases hi : i.drivesSequencer
  case true =>
    have hw := exec_writesOnlySequencer hi h
    exact ⟨hw.lvg, hw.hornOut, hw.indRed, hw.cmpSel⟩
  case false =>
    have hw := exec_writesOnlySwitch hi hpoll hlvg h
    simp [hw.lvg, hw.out]

/-! ### The TSE registers that a command of the TSE leaves -/

theorem execSeqUpdate_pattern (h : execSeqUpdate s = .next t) : t.tse.pattern = s.tse.pattern := by
  obtain ⟨playing, u, hu, rfl⟩ := execSeqUpdate_eq_next h
  obtain ⟨-, -, -, -, -, -, -, -, -, hpattern⟩ := seqUpdate_frame hu
  exact hpattern

/-- An abort and an `END` write `seq_active` alone (R114, R115). -/
theorem exec_writesOnlyActive (hi : i = .seqAbort ∨ i = .endWord) (h : exec i s = .next t) :
    t.tse = { s.tse with active := t.tse.active } ∧ t.out.tone = s.out.tone := by
  rcases hi with rfl | rfl <;> cases h <;> exact ⟨rfl, rfl⟩

/-- Whatever its duration, a step word leaves the place of the sequencer to the command that reads it (R113). -/
theorem execStepWord_keepsPlace {d f : BitVec 16} {u : BitVec 8} (h : execStepWord d f u s = .next t) :
    t.tse.pattern = s.tse.pattern ∧ t.tse.index = s.tse.index ∧ t.tse.lastTick = s.tse.lastTick := by
  cases h
  split <;> exact ⟨rfl, rfl, rfl⟩

end

/-- Settles O54: a TSE command or a step word stays among the TSE registers, any other command that does not run the guard
among the DSC registers, and the guard keeps what its frame lemma says. -/
theorem commandsWriteOnlyWhatTheyOwn : Obligations.CommandsWriteOnlyWhatTheyOwn := by
  intro i s t h
  refine ⟨exec_keepsInputs h, fun hupdate hpoll => exec_keepsSwitchCounter hupdate hpoll h,
    fun hupdate hclear hpoll hlvg => by rw [exec_keepsDsc hupdate hclear hpoll hlvg h], fun hi hpoll hlvg => ?_,
    ?_, fun hi => exec_writesOnlyActive hi h, ?_, fun hpoll hlvg => exec_keepsGuard hpoll hlvg h⟩
  · have hw := exec_writesOnlySwitch hi hpoll hlvg h
    exact ⟨hw.tse, by rw [hw.out]⟩
  · rintro rfl
    exact execSeqUpdate_pattern h
  · rintro d f u rfl
    exact execStepWord_keepsPlace h

end Sys2Proof.Machine

/-! ## The range of the two timers: R25

A timer is counted down or loaded with a timeout, and the timeouts of an accepted configuration fit it. -/

namespace Sys2Proof.Machine

namespace State.TimersFit

variable {s t : State}

/-- A way on which neither timer goes up. -/
theorem of_le (h : s.TimersFit) (hguard : t.lvg.guardTimer ≤ s.lvg.guardTimer)
    (hcommit : t.lvg.commitTimer ≤ s.lvg.commitTimer) : t.TimersFit :=
  ⟨hguard.trans h.1, hcommit.trans h.2⟩

theorem of_lvg_eq (h : s.TimersFit) (hlvg : t.lvg = s.lvg) : t.TimersFit :=
  h.of_le (by rw [hlvg]) (by rw [hlvg])

theorem armGuardTimer {v : Nat} (h : s.TimersFit) (hv : v ≤ 65535) : (s.armGuardTimer v).TimersFit := ⟨hv, h.2⟩

end State.TimersFit

/-! ### The handlers of the guard -/

theorem enterActive_timersFit (s : State) : s.enterActive.TimersFit := by
  obtain ⟨-, hmaxHonk, -, hcommit, -⟩ := s.config.timeoutsFit
  exact ⟨hmaxHonk, hcommit⟩

theorem guardInit_timersFit (sw : Bool) (s : State) : (guardInit sw s).TimersFit := by
  obtain ⟨hkill, -, hcommitInit, -, -⟩ := s.config.timeoutsFit
  exact ⟨hkill, hcommitInit⟩

section
variable {sw : Bool} {s t : State}

theorem guardKill_timersFit (h : s.TimersFit) : (guardKill s).TimersFit := by
  obtain ⟨-, hmaxHonk, -, -, -⟩ := s.config.timeoutsFit
  rw [guardKill_eq]
  split_ifs
  · exact h.of_le le_rfl le_rfl
  · exact h.armGuardTimer hmaxHonk
  · exact h.of_le (Nat.sub_le _ _) le_rfl

theorem seqUpdate_timersFit {playing : Bool} (h : s.TimersFit) (hu : seqUpdate s = .ok (playing, t)) : t.TimersFit := by
  obtain ⟨-, hlvg, -⟩ := seqUpdate_frame hu
  exact h.of_lvg_eq hlvg

theorem guardCheckBell_timersFit (h : s.TimersFit) (hb : guardCheckBell sw s = .ok t) : t.TimersFit := by
  obtain ⟨playing, u, hu, hcases⟩ := guardCheckBell_cases hb
  have hfit := seqUpdate_timersFit h hu
  obtain ⟨-, -, -, -, hrebeep⟩ := u.config.timeoutsFit
  rcases hcases with ⟨-, -, rfl⟩ | ⟨-, -, rfl⟩ | ⟨-, -, rfl⟩ | ⟨-, -, rfl⟩
  · exact enterActive_timersFit _
  · exact hfit
  · exact hfit.of_le (by simp) (by simp)
  · exact hfit.armGuardTimer hrebeep

theorem guardCheckHornIdle_timersFit (h : s.TimersFit) : (guardCheckHornIdle sw s).TimersFit := by
  rw [guardCheckHornIdle_eq]
  split_ifs
  · exact enterActive_timersFit _
  · exact h.of_le (by simp) (by simp)
  · exact h.of_le (by simp) (by simp)

theorem guardHeldTick_timersFit (h : s.TimersFit) : (guardHeldTick s).TimersFit := by
  rw [guardHeldTick_eq]
  exact h.of_le (Nat.sub_le _ _) (Nat.sub_le _ _)

theorem guardCheckHornActive_timersFit (h : s.TimersFit) : (guardCheckHornActive sw s).TimersFit := by
  rw [guardCheckHornActive_eq]
  split
  · exact guardHeldTick_timersFit h
  · exact h.of_le (by simp) (by simp)

theorem endBeepFallthrough_timersFit (h : s.TimersFit) : s.endBeepFallthrough.TimersFit := by
  rw [endBeepFallthrough_eq]
  split_ifs
  · exact h.of_lvg_eq rfl
  · exact h

theorem guardEndBeep_timersFit (h : s.TimersFit) (he : guardEndBeep sw s = .ok t) : t.TimersFit := by
  rcases guardEndBeep_cases he with ⟨-, rfl⟩ | ⟨u, -, hu, rfl⟩ | ⟨u, -, hu, rfl⟩
  · exact endBeepFallthrough_timersFit (enterActive_timersFit _)
  · exact endBeepFallthrough_timersFit (seqUpdate_timersFit h hu)
  · have hoff : u.hornOff.TimersFit := (seqUpdate_timersFit h hu).of_lvg_eq rfl
    exact endBeepFallthrough_timersFit (hoff.armGuardTimer (Nat.zero_le _))

/-! ### The commands -/

theorem lvgUpdate_timersFit (h : s.TimersFit) (hu : lvgUpdate s = .ok t) : t.TimersFit := by
  have htake : s.takeGuardTick.TimersFit := h.of_le le_rfl le_rfl
  rcases lvgUpdate_cases hu with ⟨-, rfl⟩ | ⟨-, ⟨-, rfl⟩ | ⟨-, rfl⟩ | ⟨-, hb⟩ | ⟨-, rfl⟩ | ⟨-, rfl⟩ | ⟨-, he⟩ | ⟨-, rfl⟩⟩
  · exact h
  · exact guardInit_timersFit _ _
  · exact guardKill_timersFit htake
  · exact guardCheckBell_timersFit htake hb
  · exact guardCheckHornIdle_timersFit htake
  · exact guardCheckHornActive_timersFit htake
  · exact guardEndBeep_timersFit htake he
  · exact htake.of_lvg_eq rfl

theorem poll_timersFit (h : s.TimersFit) (hp : poll s = .ok t) : t.TimersFit := by
  have hupdated : s.swUpdate.TimersFit := h.of_lvg_eq (swUpdate_lvg s)
  rcases poll_cases hp with ⟨-, rfl⟩ | ⟨-, hg⟩
  · exact hupdated
  · exact lvgUpdate_timersFit hupdated hg

theorem exec_timersFit {i : Instr} (h : s.TimersFit) (he : exec i s = .next t) : t.TimersFit := by
  have hbegin : s.begin.TimersFit := h
  by_cases hpoll : i = .poll
  · subst hpoll
    exact poll_timersFit hbegin (outcomeOf_eq_next.mp he)
  by_cases hlvg : i = .lvgUpdate
  · subst hlvg
    exact lvgUpdate_timersFit hbegin (outcomeOf_eq_next.mp he)
  · exact h.of_lvg_eq (exec_keepsGuard hpoll hlvg he).1

end

/-- Settles O53: a command keeps the range, a reserved one and the presenting of inputs do not touch the timers. -/
theorem stepKeepsTimersWithinSixteenBits : Obligations.StepKeepsTimersWithinSixteenBits := by
  intro s t h hstep
  rcases step_cases hstep with ⟨i, u, -, hu, rfl⟩ | ⟨e, -, rfl⟩
  · exact (exec_timersFit h hu).of_lvg_eq (presentNext_lvg u)
  · exact h.of_lvg_eq (by simp)

end Sys2Proof.Machine

/-! ## The placed word is the word that runs: R53, R65, R70, R111 -/

namespace Sys2Proof

/-! ### The decoder of a word of either length -/

theorem decodeTableWord_command_iff {w : Nat} {i : Instr} :
    decodeTableWord 32 w = some i ↔ decodeCommand (BitVec.ofNat 32 w) = .ok i := by
  cases h : decodeCommand (BitVec.ofNat 32 w) <;> simp [decodeTableWord, h, Except.toOption]

theorem decodeTableWord_romWord_iff {w : Nat} {i : Instr} :
    decodeTableWord 40 w = some i ↔ decodeStepWord (BitVec.ofNat 40 w) = i := by
  simp [decodeTableWord]

end Sys2Proof

namespace Sys2Proof.Machine

/-! ### The two placements -/

@[simp] theorem withFetchWord_command (s : State) (w : Nat) :
    s.withFetchWord 32 w = s.withCommand (BitVec.ofNat 32 w) := rfl

@[simp] theorem withFetchWord_romWord (s : State) (w : Nat) :
    s.withFetchWord 40 w = s.withRomWord (BitVec.ofNat 40 w) := rfl

@[simp] theorem withCommand_cmd (s : State) (w : CommandWord) : (s.withCommand w).pins.cmd = w := rfl

@[simp] theorem withRomWord_config (s : State) (w : StepWord) :
    (s.withRomWord w).config = s.config.singleWordRom w := rfl

@[simp] theorem withRomWord_cmd (s : State) (w : StepWord) : (s.withRomWord w).pins.cmd = 0x50000000 := rfl

/-- The command that `withRomWord` puts on the pins is `SEQ_START 0` (R68, R71). -/
theorem decodeCommand_withRomWord (s : State) (w : StepWord) :
    decodeCommand (s.withRomWord w).pins.cmd = .ok (.seqStart PatternId.hornSteady.toBits) := by
  rw [withRomWord_cmd]
  decide

/-- Every pattern of the ROM of one word starts at that word (R53). -/
@[simp] theorem stepZero_singleWordRom (c : Config) (w : StepWord) (p : PatternId) :
    stepZero (c.singleWordRom w) p = w := by
  cases p <;> rfl

/-! ### A start runs step 0 -/

theorem exec_seqStart_toBits (p : PatternId) (s : State) :
    exec (.seqStart p.toBits) s = .next (s.begin.seqStart p) := by
  cases p <;> rfl

/-- A step word runs in the form that its duration gives it (R67, R113, R114). -/
theorem exec_decodeStepWord (w : StepWord) (s : State) :
    exec (decodeStepWord w) s =
      .next (if stepDuration w = 0#16 then s.begin.reachEnd
        else s.begin.enterStep (stepDuration w) (stepFreq w) (stepDuty w)) := by
  by_cases hend : stepDuration w = 0#16 <;> simp [decodeStepWord, exec, execEndWord, execStepWord, hend]

/-- A start puts the sequencer on step 0 and then does what the step word there does, in either form (R111). -/
theorem exec_seqStart_runs_stepZero (p : PatternId) (s : State) :
    exec (.seqStart p.toBits) s =
      exec (decodeStepWord (stepZero s.config p)) (s.startPattern p (stepDuration (stepZero s.config p))) := by
  rw [exec_seqStart_toBits, exec_decodeStepWord]
  rfl

theorem step_withRomWord (s : State) (w : StepWord) :
    step (s.withRomWord w) =
      afterCommand (exec (decodeStepWord w) ((s.withRomWord w).startPattern .hornSteady (stepDuration w))) := by
  rw [step_of_decode (decodeCommand_withRomWord s w), exec_seqStart_runs_stepZero, withRomWord_config,
    stepZero_singleWordRom]

/-- Settles O9: a placed command word is the one the pins decode to; a placed step word is step 0 of the pattern that the
`SEQ_START` on the pins starts. -/
theorem stepRunsThePlacedWord : Obligations.StepRunsThePlacedWord := by
  refine ⟨fun s w i h => ?_, fun s w i h => ?_⟩
  · have hdecode : decodeCommand (s.withFetchWord 32 w).pins.cmd = .ok i := by
      rw [withFetchWord_command, withCommand_cmd, decodeTableWord_command_iff.mp h]
    exact step_of_decode hdecode
  · obtain rfl := decodeTableWord_romWord_iff.mp h
    rw [withFetchWord_romWord, step_withRomWord]

end Sys2Proof.Machine

/-! ## Reading and writing the words of an instruction: R66, R67, R70 to R73 -/

namespace Sys2Proof

/-! ### The decoder by the value of its fields -/

theorem decodePattern_eq_error_iff {pat : BitVec 3} {e : DecodeError} :
    decodePattern pat = .error e ↔ 5 ≤ pat.toNat ∧ e = .reservedPattern pat := by
  unfold decodePattern
  split
  · simp only [reduceCtorEq, false_iff]
    omega
  · have hpat : 5 ≤ pat.toNat := by omega
    simp [hpat, eq_comm (a := e)]

theorem decodePattern_of_le {pat : BitVec 3} (h : pat.toNat ≤ 4) : decodePattern pat = .ok (.seqStart pat) :=
  if_pos h

theorem decodeCommand_of_op_five {w : CommandWord} (h : opField w = 5#4) :
    decodeCommand w = decodePattern (patField w) := by
  simp [decodeCommand, h]

theorem decodeCommand_of_op_eight {w : CommandWord} (h : opField w = 8#4) :
    decodeCommand w = .ok (.pwmCalc (freqField w) (dutyField w)) := by
  simp [decodeCommand, h]

/-- Each reserved word with the error that names it (R73). -/
theorem decodeCommand_eq_error_iff {w : CommandWord} {e : DecodeError} :
    decodeCommand w = .error e ↔
      (10 ≤ (opField w).toNat ∧ e = .reservedOp (opField w)) ∨
      ((opField w).toNat = 5 ∧ 5 ≤ (patField w).toNat ∧ e = .reservedPattern (patField w)) := by
  unfold decodeCommand
  split
  case h_6 hop => simp [hop, decodePattern_eq_error_iff]
  case h_11 =>
    have hop : 10 ≤ (opField w).toNat := by grind
    have hne : (opField w).toNat ≠ 5 := by omega
    simp [hop, hne, eq_comm (a := e)]
  all_goals simp [*]

theorem decodeStepWord_of_duration_eq_zero {w : StepWord} (h : stepDuration w = 0#16) :
    decodeStepWord w = .endWord :=
  if_pos h

theorem decodeStepWord_of_duration_ne_zero {w : StepWord} (h : stepDuration w ≠ 0#16) :
    decodeStepWord w = .stepWord (stepDuration w) (stepFreq w) (stepDuty w) :=
  if_neg h

/-! ### The fields of the canonical words -/

@[simp] theorem opField_encodeOp (op : BitVec 4) : opField (encodeOp op) = op := by
  apply BitVec.eq_of_toNat_eq
  rw [opField_toNat, encodeOp_toNat]
  omega

@[simp] theorem opField_startWord (pat : BitVec 3) : opField (0x5#4 ++ 0#25 ++ pat) = 5#4 := by
  apply BitVec.eq_of_toNat_eq
  rw [opField_toNat, startWord_toNat, BitVec.toNat_ofNat]
  omega

@[simp] theorem patField_startWord (pat : BitVec 3) : patField (0x5#4 ++ 0#25 ++ pat) = pat := by
  apply BitVec.eq_of_toNat_eq
  rw [patField_toNat, startWord_toNat]
  omega

@[simp] theorem opField_pwmWord (f : BitVec 16) (u : BitVec 8) : opField (0x8#4 ++ 0#4 ++ f ++ u) = 8#4 := by
  apply BitVec.eq_of_toNat_eq
  rw [opField_toNat, pwmWord_toNat, BitVec.toNat_ofNat]
  omega

@[simp] theorem freqField_pwmWord (f : BitVec 16) (u : BitVec 8) : freqField (0x8#4 ++ 0#4 ++ f ++ u) = f := by
  apply BitVec.eq_of_toNat_eq
  rw [freqField_toNat, pwmWord_toNat]
  omega

@[simp] theorem dutyField_pwmWord (f : BitVec 16) (u : BitVec 8) : dutyField (0x8#4 ++ 0#4 ++ f ++ u) = u := by
  apply BitVec.eq_of_toNat_eq
  rw [dutyField_toNat, pwmWord_toNat]
  omega

@[simp] theorem stepDuration_append (d f : BitVec 16) (u : BitVec 8) : stepDuration (d ++ f ++ u) = d := by
  apply BitVec.eq_of_toNat_eq
  rw [stepDuration_toNat, stepWord_toNat]
  omega

@[simp] theorem stepFreq_append (d f : BitVec 16) (u : BitVec 8) : stepFreq (d ++ f ++ u) = f := by
  apply BitVec.eq_of_toNat_eq
  rw [stepFreq_toNat, stepWord_toNat]
  omega

@[simp] theorem stepDuty_append (d f : BitVec 16) (u : BitVec 8) : stepDuty (d ++ f ++ u) = u := by
  apply BitVec.eq_of_toNat_eq
  rw [stepDuty_toNat, stepWord_toNat]
  omega

/-! ### Decoding the canonical words -/

theorem decodeCommand_startWord (pat : BitVec 3) : decodeCommand (0x5#4 ++ 0#25 ++ pat) = decodePattern pat := by
  rw [decodeCommand_of_op_five (opField_startWord pat), patField_startWord]

theorem decodeCommand_pwmWord (f : BitVec 16) (u : BitVec 8) :
    decodeCommand (0x8#4 ++ 0#4 ++ f ++ u) = .ok (.pwmCalc f u) := by
  rw [decodeCommand_of_op_eight (opField_pwmWord f u), freqField_pwmWord, dutyField_pwmWord]

theorem decodeStepWord_append {d : BitVec 16} (hd : d ≠ 0#16) (f : BitVec 16) (u : BitVec 8) :
    decodeStepWord (d ++ f ++ u) = .stepWord d f u := by
  rw [decodeStepWord_of_duration_ne_zero (by rwa [stepDuration_append]), stepDuration_append, stepFreq_append,
    stepDuty_append]

/-- Settles O1, by the constructors: a command without operands has one canonical word, and of every other instruction the
fields of the canonical word are the operands. -/
theorem decodeOfEncodeIsIdentity : Obligations.DecodeOfEncodeIsIdentity := by
  intro i hwf
  cases i with
  | nop | poll | swUpdate | swGet | swClear | seqUpdate | seqAbort | lvgUpdate | endWord => rfl
  | seqStart pat =>
    have hpat : pat.toNat ≤ 4 := of_decide_eq_true hwf
    exact (decodeCommand_startWord pat).trans (decodePattern_of_le hpat)
  | pwmCalc f u => exact decodeCommand_pwmWord f u
  | stepWord d f u =>
    have hd : d ≠ 0#16 := of_decide_eq_true hwf
    exact congrArg Except.ok (decodeStepWord_append hd f u)

/-! ### What the decoder answers -/

theorem wf_of_decodeCommand {w : CommandWord} {i : Instr} (h : decodeCommand w = .ok i) : i.wf = true := by
  obtain rfl | rfl | rfl | rfl | rfl | ⟨pat, rfl, hpat⟩ | rfl | rfl | ⟨f, u, rfl⟩ | rfl := Machine.decodeCommand_cases h
  any_goals rfl
  exact decide_eq_true hpat

theorem decodeStepWord_wf (w : StepWord) : (decodeStepWord w).wf = true := by
  by_cases hd : stepDuration w = 0#16
  · rw [decodeStepWord_of_duration_eq_zero hd]
    rfl
  · rw [decodeStepWord_of_duration_ne_zero hd]
    exact decide_eq_true hd

/-- Settles O2, by the kind of the word. -/
theorem decodedInstructionIsWellFormed : Obligations.DecodedInstructionIsWellFormed := by
  intro e i h
  cases e with
  | command w => exact wf_of_decodeCommand h
  | romWord w =>
    obtain rfl : decodeStepWord w = i := Except.ok.inj h
    exact decodeStepWord_wf w

/-- Settles O6: the errors by name, with the name left out. -/
theorem reservedEncodingsAreExactlyThese : Obligations.ReservedEncodingsAreExactlyThese := by
  intro w
  simp only [decodeCommand_eq_error_iff, exists_or, exists_and_left, exists_eq, and_true]

/-! ### The bits that the decoder ignores -/

/-- Where `op` selects a command without operands, or none, a word decodes as the one whose other bits are zero (R72). -/
theorem decodeCommand_eq_encodeOp {w : CommandWord} (h5 : opField w ≠ 5#4) (h8 : opField w ≠ 8#4) :
    decodeCommand w = decodeCommand (encodeOp (opField w)) := by
  unfold decodeCommand
  rw [opField_encodeOp]
  split
  case h_6 hop => exact absurd (BitVec.eq_of_toNat_eq hop) h5
  case h_9 hop => exact absurd (BitVec.eq_of_toNat_eq hop) h8
  all_goals rfl

/-- Settles O5, by whether `op` selects a command with operands. -/
theorem ignoredBitsAreIgnored : Obligations.IgnoredBitsAreIgnored := by
  intro w v hop hpat hpwm
  by_cases h5 : opField w = 5#4
  · rw [decodeCommand_of_op_five h5, decodeCommand_of_op_five (hop ▸ h5), hpat h5]
  by_cases h8 : opField w = 8#4
  · obtain ⟨hfreq, hduty⟩ := hpwm h8
    rw [decodeCommand_of_op_eight h8, decodeCommand_of_op_eight (hop ▸ h8), hfreq, hduty]
  calc decodeCommand w
    _ = decodeCommand (encodeOp (opField w)) := decodeCommand_eq_encodeOp h5 h8
    _ = decodeCommand (encodeOp (opField v)) := by rw [hop]
    _ = decodeCommand v := (decodeCommand_eq_encodeOp (hop ▸ h5) (hop ▸ h8)).symm

/-! ### The fields as numbers -/

theorem stepWord_toNat_eq_fields (w : StepWord) :
    w.toNat = (stepDuration w).toNat * 2 ^ 24 + (stepFreq w).toNat * 2 ^ 8 + (stepDuty w).toNat := by
  rw [stepDuration_toNat, stepFreq_toNat, stepDuty_toNat]
  omega

/-- Settles O4, by the value of each field as a number. -/
theorem fieldsStandAtTheirBits : Obligations.FieldsStandAtTheirBits :=
  ⟨stepWord_toNat_eq_fields, fun w => ⟨opField_toNat w, patField_toNat w, freqField_toNat w, dutyField_toNat w⟩⟩

/-- Settles O7, by the two forms of a step word. -/
theorem stepWordFormIsDecidedByDuration : Obligations.StepWordFormIsDecidedByDuration :=
  ⟨fun _ => decodeStepWord_of_duration_eq_zero, fun _ => decodeStepWord_of_duration_ne_zero, rfl⟩

end Sys2Proof

/-! ## The inputs of a `TPOLL`: R79 -/

namespace Sys2Proof.Machine

theorem tpollInputs_succ_snd (p : Params) (n : Nat) (i : Inputs) :
    (tpollInputs p (n + 1) i).2 =
      { i.advanceTick p 1 with cmd := pollWord } :: (tpollInputs p n { i.advanceTick p 1 with cmd := pollWord }).2 :=
  rfl

theorem tpollInputs_length (p : Params) (n : Nat) (i : Inputs) : (tpollInputs p n i).2.length = n := by
  induction n generalizing i with
  | zero => rfl
  | succ n ih => rw [tpollInputs_succ_snd, List.length_cons, ih]

/-- The `k`-th inputs, counted from 0, are `k + 1` ticks on (R79). -/
theorem tpollInputs_getElem? {p : Params} {n k : Nat} (i : Inputs) (hk : k < n) :
    (tpollInputs p n i).2[k]? = some { i.advanceTick p (k + 1) with cmd := pollWord } := by
  induction n generalizing i k with
  | zero => omega
  | succ n ih =>
    rw [tpollInputs_succ_snd]
    cases k with
    | zero => rfl
    | succ k =>
      have htick : ((i.tick + 1) % 2 ^ p.tickW + (k + 1)) % 2 ^ p.tickW = (i.tick + (k + 1 + 1)) % 2 ^ p.tickW := by
        rw [Nat.mod_add_mod]
        congr 1
        omega
      rw [List.getElem?_cons_succ, ih _ (by omega)]
      simp only [Inputs.advanceTick, htick]

/-- Settles O60, by the length and the element at each place. -/
theorem tpollIsTicksAndPolls : Obligations.TpollIsTicksAndPolls := by
  intro p n i
  refine ⟨tpollInputs_length p n i, fun k j hj => ?_⟩
  have hk : k < n := by
    obtain ⟨hlt, _⟩ := List.getElem?_eq_some_iff.mp hj
    rwa [tpollInputs_length] at hlt
  rw [tpollInputs_getElem? i hk] at hj
  exact (Option.some.inj hj).symm

end Sys2Proof.Machine

/-! ## The commands of the DSC, and the procedures of the guard: R91 to R93, R110 -/

namespace Sys2Proof

/-- A command without operands is selected by `op` alone (R70, R72). -/
theorem decodeCommand_of_op {w : CommandWord} {op : BitVec 4} (h : opField w = op) (h5 : op ≠ 5#4) (h8 : op ≠ 8#4) :
    decodeCommand w = decodeCommand (encodeOp op) := by
  subst h
  exact decodeCommand_eq_encodeOp h5 h8

theorem decodeCommand_of_op_two {w : CommandWord} (h : opField w = 2#4) : decodeCommand w = .ok .swUpdate :=
  decodeCommand_of_op h (by decide) (by decide)

theorem decodeCommand_of_op_three {w : CommandWord} (h : opField w = 3#4) : decodeCommand w = .ok .swGet :=
  decodeCommand_of_op h (by decide) (by decide)

theorem decodeCommand_of_op_four {w : CommandWord} (h : opField w = 4#4) : decodeCommand w = .ok .swClear :=
  decodeCommand_of_op h (by decide) (by decide)

end Sys2Proof

namespace Sys2Proof.Machine

/-! ### What each command runs on the state with zero result and no event -/

theorem exec_swUpdate (s : State) : exec .swUpdate s = .next s.begin.swUpdate := rfl

theorem exec_swGet (s : State) : exec .swGet s = .next (s.begin.setResBool s.dsc.status) := rfl

theorem exec_swClear (s : State) : exec .swClear s = .next s.begin.swClear := rfl

theorem exec_seqAbort (s : State) : exec .seqAbort s = .next s.begin.seqAbort := rfl

/-- The update leaves the zero result that it starts with, so its answer is the whole result (R112). -/
theorem exec_seqUpdate_of_ok {s u : State} {playing : Bool} (h : seqUpdate s.begin = .ok (playing, u)) :
    exec .seqUpdate s = .next { u with result := ⟨playing, 0, 0, false⟩ } := by
  have hexec : exec .seqUpdate s = .next (u.setResBool playing) := by
    simp [exec, execSeqUpdate, h, Except.map]
  obtain ⟨-, -, -, -, -, hresult, -⟩ := seqUpdate_frame h
  rw [hexec, State.setResBool, hresult]
  rfl

/-! ### The whole next states -/

theorem switchActive_iff (s : State) : s.switchActive = true ↔ s.pins.rawLevel = s.par.swActiveLevel := beq_iff_eq

/-- Settles O15: the registers that `swUpdate_eq` gives, with the polarity written out (R90). -/
theorem swUpdateMovesTheCounter : Obligations.SwUpdateMovesTheCounter := by
  refine ⟨fun _ => decodeCommand_of_op_two, fun s => ?_⟩
  rw [exec_swUpdate, swUpdate_eq]
  simp only [switchActive_iff]
  rfl

/-- Settles O13. -/
theorem swGetReturnsTheLatch : Obligations.SwGetReturnsTheLatch :=
  ⟨fun _ => decodeCommand_of_op_three, exec_swGet⟩

/-- Settles O14. -/
theorem swClearReleasesStatusOnly : Obligations.SwClearReleasesStatusOnly :=
  ⟨fun _ => decodeCommand_of_op_four, exec_swClear⟩

/-- Settles O30, command by command. -/
theorem guardCallsAreTheCommands : Obligations.GuardCallsAreTheCommands :=
  ⟨fun s p => exec_seqStart_toBits p s, fun _ _ _ => exec_seqUpdate_of_ok, exec_seqAbort, exec_swClear⟩

end Sys2Proof.Machine

/-! ## `PWM_CALC`: R100 to R103 -/

namespace Sys2Proof.Machine

theorem exec_pwmCalc (freq : BitVec 16) (duty : BitVec 8) (s : State) :
    exec (.pwmCalc freq duty) s = .next (s.begin.setResTone (pwmCalc s.par freq duty)) := rfl

/-- The two numbers written out: both operands clamped (R101), the period saturated at 0 and capped (R102), a clamped duty of
100 giving the period itself (R103). -/
theorem pwmCalc_eq (p : Params) (freq : BitVec 16) (duty : BitVec 8) :
    pwmCalc p freq duty =
      let f := min (max freq.toNat p.minFreq) p.maxFreq
      let d := min duty.toNat 100
      let q := p.clockHz / p.prescaler / f
      let period := min (if 1 ≤ q then q - 1 else 0) p.periodMax
      ⟨period, if d = 100 then period else period * d / 100⟩ := rfl

/-- The two numbers stand in a result that is zero otherwise, and nothing else changes but the events, which are none: the
command programs nothing (R100). -/
theorem setResTone_begin (t : Tone) (s : State) :
    s.begin.setResTone t = { s with result := ⟨false, t.period, t.compare, false⟩, events := [] } := rfl

/-- Settles O19: `op` 8 selects the command, and its answer is the cleared result with the numbers of `pwmCalc_eq`. -/
theorem pwmCalcGivesPeriodAndCompare : Obligations.PwmCalcGivesPeriodAndCompare := by
  refine ⟨fun _ => decodeCommand_of_op_eight, fun freq duty s => ?_⟩
  rw [exec_pwmCalc, setResTone_begin, pwmCalc_eq]

end Sys2Proof.Machine

/-! ## The commands of the TSE, and the step words: R111 to R115 -/

namespace Sys2Proof

theorem decodeCommand_of_op_six {w : CommandWord} (h : opField w = 6#4) : decodeCommand w = .ok .seqUpdate :=
  decodeCommand_of_op h (by decide) (by decide)

theorem decodeCommand_of_op_seven {w : CommandWord} (h : opField w = 7#4) : decodeCommand w = .ok .seqAbort :=
  decodeCommand_of_op h (by decide) (by decide)

end Sys2Proof

namespace Sys2Proof.Machine

/-! ### The step words and the abort -/

theorem exec_endWord (s : State) : exec .endWord s = .next s.begin.reachEnd := rfl

theorem exec_stepWord_of_ne_zero {d : BitVec 16} (hd : d ≠ 0#16) (f : BitVec 16) (u : BitVec 8) (s : State) :
    exec (.stepWord d f u) s = .next (s.begin.enterStep d f u) :=
  congrArg Host.Outcome.next (if_neg hd)

/-- Entering a step on cleared outputs: the remaining count, the tone and its one event; nothing else (R113). -/
theorem enterStep_begin (d f : BitVec 16) (u : BitVec 8) (s : State) :
    s.begin.enterStep d f u =
      { s with
        tse := { s.tse with remaining := d.toNat }
        out := { s.out with tone := pwmCalc s.par f u }
        result := ⟨false, 0, 0, false⟩
        events := [.programTone (pwmCalc s.par f u)] } := rfl

/-- Settles O26: a `STEP` of nonzero duration is entered, an `END` is reached. -/
theorem stepWordsDoTheirEffect : Obligations.StepWordsDoTheirEffect := by
  refine ⟨fun d f u s hd => ?_, exec_endWord⟩
  rw [exec_stepWord_of_ne_zero hd, enterStep_begin]

/-- Settles O25. -/
theorem seqAbortMarksIdleOnly : Obligations.SeqAbortMarksIdleOnly :=
  ⟨fun _ => decodeCommand_of_op_seven, exec_seqAbort⟩

/-! ### Starting a pattern -/

/-- The word at a pattern's base is its step 0 (R52, R53). -/
theorem eq_stepZero_of_romRead {c : Config} {p : PatternId} {w : StepWord}
    (h : romRead c.params (c.params.patternBase.get p + 0) = .ok w) : w = stepZero c p :=
  Except.ok.inj (h.symm.trans (romRead_stepZero c p))

/-- Settles O22: the word is step 0, which every accepted ROM holds; either form of it runs on the started registers. -/
theorem seqStartSelectsThePattern : Obligations.SeqStartSelectsThePattern := by
  refine ⟨⟨rfl, rfl, rfl, rfl, rfl⟩, fun w hop hpat => ?_, fun s p => ?_⟩
  · rw [decodeCommand_of_op_five hop, decodePattern_of_le hpat]
  · refine ⟨stepZero s.config p, romRead_stepZero s.config p, fun hend => ?_, fun hstep => ?_⟩
    · rw [exec_seqStart_runs_stepZero, decodeStepWord_of_duration_eq_zero hend, hend, exec_endWord]
      rfl
    · rw [exec_seqStart_runs_stepZero, decodeStepWord_of_duration_ne_zero hstep, exec_stepWord_of_ne_zero hstep,
        enterStep_begin]
      rfl

/-! ### Each branch of an update: R112 -/

section
variable {s : State} {w : StepWord}

theorem seqUpdate_of_noTick (htick : s.tickIn = s.tse.lastTick) : seqUpdate s = .ok (s.tse.active, s) :=
  if_pos htick

theorem seqUpdate_of_idle (htick : s.tickIn ≠ s.tse.lastTick) (hidle : s.tse.active = false) :
    seqUpdate s = .ok (false, s.takeSeqTick) := by
  simp [seqUpdate, htick, hidle]

theorem seqUpdate_of_counting (htick : s.tickIn ≠ s.tse.lastTick) (hactive : s.tse.active = true)
    (hcount : 0 < s.tse.remaining) : seqUpdate s = .ok (true, s.takeSeqTick.countStep) := by
  simp [seqUpdate, htick, hactive, hcount]

/-! An update that finds its step used up reads the next word. -/

variable (htick : s.tickIn ≠ s.tse.lastTick) (hactive : s.tse.active = true) (hdone : s.tse.remaining = 0)
  (hread : romRead s.par (stepAddress s.par s.tse.pattern (s.tse.index + 1)) = .ok w)
include htick hactive hdone hread

theorem seqUpdate_of_step (hstep : stepDuration w ≠ 0#16) :
    seqUpdate s =
      .ok (true, s.takeSeqTick.advanceIndex.enterStep (stepDuration w) (stepFreq w) (stepDuty w)) := by
  simp [seqUpdate, htick, hactive, hdone, hread, hstep]

theorem seqUpdate_of_end (hend : stepDuration w = 0#16) : seqUpdate s = .ok (false, s.takeSeqTick.reachEnd) := by
  simp [seqUpdate, htick, hactive, hdone, hread, hend]

/-- The command enters the next step as its word does alone, and answers that the playback goes on. -/
theorem exec_seqUpdate_of_step (hstep : stepDuration w ≠ 0#16) :
    exec .seqUpdate s =
      .next ((s.takeSeqTick.advanceIndex.begin.enterStep (stepDuration w) (stepFreq w) (stepDuty w)).setResBool
        true) :=
  exec_seqUpdate_of_ok (seqUpdate_of_step (s := s.begin) htick hactive hdone hread hstep)

/-- The command ends the playback as the sentinel does alone: its answer 0 is the zero result. -/
theorem exec_seqUpdate_of_end (hend : stepDuration w = 0#16) :
    exec .seqUpdate s = .next s.takeSeqTick.begin.reachEnd :=
  exec_seqUpdate_of_ok (seqUpdate_of_end (s := s.begin) htick hactive hdone hread hend)

end

/-- Settles O23: the branch lemmas on the state with cleared outputs, whose registers and inputs are those of the state
itself. -/
theorem seqUpdateAdvancesThePlayback : Obligations.SeqUpdateAdvancesThePlayback := by
  refine ⟨fun _ => decodeCommand_of_op_six, fun s => ⟨fun htick => ?noTick, fun htick hidle => ?idle,
    fun htick hactive hcount => ?counting, fun w htick hactive hdone hread hstep => ?step,
    fun w htick hactive hdone hread hend => ?sentinel⟩⟩
  case noTick => exact exec_seqUpdate_of_ok (seqUpdate_of_noTick (s := s.begin) htick)
  case idle => exact exec_seqUpdate_of_ok (seqUpdate_of_idle (s := s.begin) htick hidle)
  case counting => exact exec_seqUpdate_of_ok (seqUpdate_of_counting (s := s.begin) htick hactive hcount)
  case step =>
    rw [exec_seqUpdate_of_step htick hactive hdone hread hstep, enterStep_begin]
    rfl
  case sentinel => exact exec_seqUpdate_of_end htick hactive hdone hread hend

/-- Settles O27: the word that a command reads, run by itself, is the same entry or end that the command makes. -/
theorem sequencerRunsTheRomWords : Obligations.SequencerRunsTheRomWords := by
  refine ⟨fun s t p w hread hrun => ?start, fun s t w htick hactive hdone hread => ⟨fun hstep hrun => ?step,
    fun hend hrun => ?sentinel⟩⟩
  case start =>
    obtain rfl := eq_stepZero_of_romRead hread
    rw [exec_seqStart_runs_stepZero, hrun]
  case step =>
    rw [exec_decodeStepWord, if_neg hstep] at hrun
    obtain rfl := Host.Outcome.next.inj hrun
    exact exec_seqUpdate_of_step htick hactive hdone hread hstep
  case sentinel =>
    rw [exec_decodeStepWord, if_pos hend] at hrun
    rw [exec_seqUpdate_of_end htick hactive hdone hread hend, hrun]

end Sys2Proof.Machine

/-! ## `LVG_UPDATE`: R130, R134 to R141 -/

namespace Sys2Proof

theorem decodeCommand_of_op_nine {w : CommandWord} (h : opField w = 9#4) : decodeCommand w = .ok .lvgUpdate :=
  decodeCommand_of_op h (by decide) (by decide)

end Sys2Proof

namespace Sys2Proof.Machine

/-! ### What the update runs: the tick gate, then the handler of the state -/

/-- Without an elapsed tick nothing is left of the update but its cleared outputs (R130). -/
theorem exec_lvgUpdate_of_noTick {s : State} (htick : s.tickIn = s.lvg.lastTick) : exec .lvgUpdate s = .next s.begin :=
  congrArg outcomeOf (if_pos htick)

/-- With an elapsed tick the answer of the state's handler is the next state; the handler sees the status as it stood and the
tick taken. -/
theorem exec_lvgUpdate_of_handler {s t : State} (htick : s.tickIn ≠ s.lvg.lastTick)
    (h : guardHandler s.dsc.status s.begin.takeGuardTick = .ok t) : exec .lvgUpdate s = .next t :=
  congrArg outcomeOf ((lvgUpdate_of_tick (s := s.begin) htick).trans h)

section
variable {s u : State} {sw : Bool}

theorem guardHandler_of_init (h : s.lvg.state = .init) : guardHandler sw s = .ok (guardInit sw s) := by
  rw [guardHandler, h]

theorem guardHandler_of_kill (h : s.lvg.state = .kill) : guardHandler sw s = .ok (guardKill s) := by
  rw [guardHandler, h]

theorem guardHandler_of_checkBell (h : s.lvg.state = .checkBell) : guardHandler sw s = guardCheckBell sw s := by
  rw [guardHandler, h]

theorem guardHandler_of_checkHornIdle (h : s.lvg.state = .checkHornIdle) :
    guardHandler sw s = .ok (guardCheckHornIdle sw s) := by
  rw [guardHandler, h]

theorem guardHandler_of_checkHornActive (h : s.lvg.state = .checkHornActive) :
    guardHandler sw s = .ok (guardCheckHornActive sw s) := by
  rw [guardHandler, h]

theorem guardHandler_of_endBeep (h : s.lvg.state = .endBeep) : guardHandler sw s = guardEndBeep sw s := by
  rw [guardHandler, h]

/-- The reserved value 7 acts as DEAD (R141). -/
theorem guardHandler_of_dead_or_reserved (h : s.lvg.state = .dead ∨ s.lvg.state = .reserved) :
    guardHandler sw s = .ok s.setRed := by
  rcases h with h | h <;> rw [guardHandler, h] <;> rfl

/-! ### The handlers that update the sequencer, by what it answers -/

theorem guardCheckBell_of_playing (hu : seqUpdate s = .ok (true, u)) :
    guardCheckBell sw s = .ok (if sw = true then u.seqAbort.enterActive else u) := by
  rw [guardCheckBell, hu]

theorem guardCheckBell_of_finished (hu : seqUpdate s = .ok (false, u)) :
    guardCheckBell sw s =
      .ok (if u.lvg.lvSticky = true then (u.seqStart .lowBattChime).goTo .endBeep
        else (u.armGuardTimer u.par.tRebeepWait).goTo .checkHornIdle) := by
  rw [guardCheckBell, hu]
  exact (apply_ite Except.ok _ _ _).symm

/-- A press leaves the sequencer where it is: it is aborted, not updated (R139). -/
theorem guardEndBeep_of_pressed : guardEndBeep true s = .ok s.seqAbort.enterActive.endBeepFallthrough := rfl

theorem guardEndBeep_of_playing (hu : seqUpdate s = .ok (true, u)) :
    guardEndBeep false s = .ok u.endBeepFallthrough := by
  simp [guardEndBeep, hu]

theorem guardEndBeep_of_finished (hu : seqUpdate s = .ok (false, u)) :
    guardEndBeep false s = .ok (u.hornOff.armGuardTimer 0).endBeepFallthrough := by
  simp [guardEndBeep, hu]

end

/-! ### The operations of the handlers as records -/

theorem releasePattern_eq (m : ConfigMode) : releasePattern m = if m = .fullBell then .bellDecay else .miniHonk := by
  cases m <;> rfl

/-- The line first, then the tone with its period kept (R133). -/
theorem hornOff_eq (s : State) :
    s.hornOff =
      { s with
        out := { s.out with hornOut := false, tone := ⟨s.out.tone.period, 0⟩ }
        events := s.events ++ [.setHorn false, .programTone ⟨s.out.tone.period, 0⟩] } := by
  simp only [State.hornOff, State.setHorn, State.programTone, State.emit, List.append_assoc, List.cons_append,
    List.nil_append]

theorem countGuardTimer_eq (s : State) :
    s.countGuardTimer = { s with lvg := { s.lvg with guardTimer := s.lvg.guardTimer - 1 } } := by
  rw [State.countGuardTimer, satDec_eq]
  rfl

/-- A start neither reads nor writes a guard register, so what was written to them before it can be written after it. -/
theorem seqStart_goTo (p : PatternId) (g : GuardState) (l : Lvg) (s : State) :
    (({ s with lvg := l } : State).seqStart p).goTo g = { s.seqStart p with lvg := { l with state := g } } := by
  rw [seqStart_eq, seqStart_eq]
  split <;> rfl

/-- The fallthrough with its indicator write and event written out, under the parameters of any state that shares them. -/
theorem endBeepFallthrough_of_par {s t : State} (hpar : t.par = s.par) :
    t.endBeepFallthrough =
      if s.par.endBeepFallsIntoDead = true then
        { t with out := { t.out with indRed := true }, events := t.events ++ [.setIndicator .red true] }
      else t := by
  rw [endBeepFallthrough_eq, hpar]
  rfl

/-! ### The tick gate, and the handlers in the order of the states -/

/-- Settles O31: `op` 9 selects the command, and a shut gate leaves the cleared outputs. -/
theorem lvgUpdateNeedsATick : Obligations.LvgUpdateNeedsATick :=
  ⟨fun _ => decodeCommand_of_op_nine, fun _ => exec_lvgUpdate_of_noTick⟩

/-- Settles O32: the record of `guardInit_eq`, with the release pattern written out. -/
theorem guardInitArmsAndGoesToKill : Obligations.GuardInitArmsAndGoesToKill := by
  intro s hstate htick
  rw [exec_lvgUpdate_of_handler htick (guardHandler_of_init hstate), guardInit_eq, releasePattern_eq]
  rfl

/-- Settles O33, by the branches of `guardKill_eq`. -/
theorem guardKillDecides : Obligations.GuardKillDecides := by
  intro s hstate htick
  rw [exec_lvgUpdate_of_handler htick (guardHandler_of_kill hstate), guardKill_eq]
  refine ⟨fun hcmp => ?tripped, fun hcmp htimer => ?elapsed, fun hcmp htimer => ?counting⟩
  case tripped => exact congrArg _ (if_pos hcmp)
  case elapsed => exact congrArg _ ((if_neg (Bool.eq_false_iff.mp hcmp)).trans (if_pos htimer))
  case counting => exact congrArg _ ((if_neg (Bool.eq_false_iff.mp hcmp)).trans (if_neg (Nat.not_le.mpr htimer)))

/-- Settles O34: the sequencer's update leaves the guard registers, the configuration and the pins, so the handler finds in
its answer the sticky flag, the timeouts and the mode of the state before. -/
theorem guardCheckBellFollowsTheSequencer : Obligations.GuardCheckBellFollowsTheSequencer := by
  intro s u playing hstate htick hu
  obtain ⟨-, hlvg, hconfig, (hpins : u.pins = s.pins), -⟩ := seqUpdate_frame hu
  have hpar : u.par = s.par := congrArg Config.params hconfig
  have hsticky : u.lvg.lvSticky = s.lvg.lvSticky := by rw [hlvg]; rfl
  have hrun {t : State} (h : guardCheckBell s.dsc.status s.begin.takeGuardTick = .ok t) : exec .lvgUpdate s = .next t :=
    exec_lvgUpdate_of_handler htick (Eq.trans (guardHandler_of_checkBell hstate) h)
  refine ⟨?released, ?pressed, ?lowBattery, ?silent⟩
  case released =>
    rintro rfl hsw
    rw [hrun (guardCheckBell_of_playing hu), if_neg (Bool.eq_false_iff.mp hsw)]
  case pressed =>
    rintro rfl hsw
    rw [hrun (guardCheckBell_of_playing hu), if_pos hsw, ← hpar, ← hpins]
    rfl
  case lowBattery =>
    rintro rfl hflag
    rw [hrun (guardCheckBell_of_finished hu), if_pos (hsticky.trans hflag)]
    exact congrArg _ (seqStart_goTo .lowBattChime .endBeep u.lvg u)
  case silent =>
    rintro rfl hflag
    rw [hrun (guardCheckBell_of_finished hu), if_neg (Bool.eq_false_iff.mp (hsticky.trans hflag)), hpar]
    rfl

/-- Settles O35, by the branches of `guardCheckHornIdle_eq`, each of which starts from the silenced state. -/
theorem guardCheckHornIdleSilencesAndWaits : Obligations.GuardCheckHornIdleSilencesAndWaits := by
  intro s hstate htick quiet
  have hquiet : s.begin.takeGuardTick.hornOff = { quiet with lvg := { s.lvg with lastTick := s.tickIn } } := rfl
  rw [exec_lvgUpdate_of_handler htick (guardHandler_of_checkHornIdle hstate), guardCheckHornIdle_eq, hquiet,
    countGuardTimer_eq]
  refine ⟨fun hsw => ?pressed, fun hsw hwait => ?waiting, fun hsw htimer hflag => ?chime⟩
  case pressed =>
    rw [if_pos hsw]
    rfl
  case waiting =>
    have hno : ¬(s.lvg.guardTimer ≤ 1 ∧ s.lvg.lvSticky = true) := by
      rintro ⟨htimer, hflag⟩
      rcases hwait with hlt | hclear
      · omega
      · exact Bool.false_ne_true (hclear.symm.trans hflag)
    exact congrArg _ ((if_neg (Bool.eq_false_iff.mp hsw)).trans (if_neg hno))
  case chime =>
    have hzero : s.lvg.guardTimer - 1 = 0 := Nat.sub_eq_zero_of_le htimer
    rw [if_neg (Bool.eq_false_iff.mp hsw), if_pos ⟨htimer, hflag⟩]
    simp only [hzero]
    exact congrArg _ (seqStart_goTo .lowBattChime .endBeep { s.lvg with guardTimer := 0, lastTick := s.tickIn } quiet)

/-- Settles O36: the record of `guardHeldTick_eq` for a press, and the start of the selected pattern for a release, which
commutes with the guard's own writes. -/
theorem guardCheckHornActiveHonksOrReleases : Obligations.GuardCheckHornActiveHonksOrReleases := by
  intro s hstate htick
  rw [exec_lvgUpdate_of_handler htick (guardHandler_of_checkHornActive hstate), guardCheckHornActive_eq]
  refine ⟨fun hsw => ?held, fun hsw => ?released⟩
  case held =>
    extract_lets count
    have hstatus : (if s.lvg.guardTimer ≤ 1 then false else s.dsc.status) = decide (1 < s.lvg.guardTimer) := by
      rw [hsw]
      split <;> simp <;> omega
    have hsticky : (s.pins.cmpTripped && decide (s.par.lvConfirm ≤ satInc s.lvg.lvCount s.par.lvCountMax)) =
        (s.pins.cmpTripped && decide (s.par.lvConfirm ≤ count)) := by
      cases hcmp : s.pins.cmpTripped
      · rfl
      · rw [show count = satInc s.lvg.lvCount s.par.lvCountMax from if_pos hcmp]
    rw [if_pos hsw, guardHeldTick_eq, releasePattern_eq, ← hstatus, ← hsticky]
    rfl
  case released =>
    rw [if_neg (Bool.eq_false_iff.mp hsw)]
    exact congrArg _ (seqStart_goTo s.lvg.selPattern .checkBell { s.lvg with lastTick := s.tickIn }
      (s.begin.setHorn false))

/-- Settles O37, by the switch and by what the sequencer's update answers; the fallthrough is decided by the parameters, which
no handler changes. -/
theorem guardEndBeepPlaysOrOverrides : Obligations.GuardEndBeepPlaysOrOverrides := by
  intro s hstate htick red
  have hrun {sw : Bool} {t : State} (hsw : s.dsc.status = sw) (hpar : t.par = s.par)
      (h : guardEndBeep sw s.begin.takeGuardTick = .ok t.endBeepFallthrough) : exec .lvgUpdate s = .next (red t) := by
    subst hsw
    rw [exec_lvgUpdate_of_handler htick (Eq.trans (guardHandler_of_endBeep hstate) h), endBeepFallthrough_of_par hpar]
  refine ⟨fun hsw => ?pressed, fun u hsw hu => ?playing, fun u hsw hu => ?finished⟩
  case pressed => exact hrun (t := s.begin.takeGuardTick.seqAbort.enterActive) hsw rfl guardEndBeep_of_pressed
  case playing =>
    obtain ⟨-, -, hconfig, -⟩ := seqUpdate_frame hu
    exact hrun hsw (congrArg Config.params hconfig) (guardEndBeep_of_playing hu)
  case finished =>
    obtain ⟨-, -, hconfig, -⟩ := seqUpdate_frame hu
    have hpar : (u.hornOff.armGuardTimer 0).par = s.par := congrArg Config.params hconfig
    rw [hrun hsw hpar (guardEndBeep_of_finished hu), hornOff_eq]
    rfl

/-- Settles O38: DEAD and the reserved value run one action. -/
theorem guardDeadOnlyAssertsRed : Obligations.GuardDeadOnlyAssertsRed := fun _ hstate htick =>
  exec_lvgUpdate_of_handler htick (guardHandler_of_dead_or_reserved hstate)

end Sys2Proof.Machine

/-! ## The step and its errors, and `NOP`: R160, R162, R163 -/

namespace Sys2Proof

theorem decodeCommand_of_op_zero {w : CommandWord} (h : opField w = 0#4) : decodeCommand w = .ok .nop :=
  decodeCommand_of_op h (by decide) (by decide)

end Sys2Proof

namespace Sys2Proof.Machine

theorem exec_nop (s : State) : exec .nop s = .next s.begin := rfl

/-- Settles O12. -/
theorem nopChangesNoRegister : Obligations.NopChangesNoRegister :=
  ⟨fun _ => decodeCommand_of_op_zero, exec_nop⟩

/-! ### No instruction is refused -/

theorem outcomeOf_ne_refused (r : Except Fault State) (e : Refusal) : outcomeOf r ≠ .refused e := by
  cases r <;> nofun

theorem execSeqStart_ne_refused (pat : BitVec 3) (s : State) (e : Refusal) : execSeqStart pat s ≠ .refused e := by
  unfold execSeqStart
  split <;> nofun

/-- Every arm either always answers or is the outcome of an operation that can only fault (R170). -/
theorem exec_ne_refused (i : Instr) (s : State) (e : Refusal) : exec i s ≠ .refused e := by
  cases i with
  | nop | swUpdate | swGet | swClear | seqAbort | pwmCalc _ _ | stepWord _ _ _ | endWord => nofun
  | seqStart pat => exact execSeqStart_ne_refused pat s e
  | poll | seqUpdate | lvgUpdate => exact outcomeOf_ne_refused _ e

/-- Settles O8: the step is what follows the command, by the outcome of the command and by whether inputs follow. -/
theorem stepRunsTheDecodedCommand : Obligations.StepRunsTheDecodedCommand := by
  intro s i hdecode _
  rw [step_of_decode hdecode]
  refine ⟨fun t ht hnil => ?_, fun t j rest ht hcons => ?_, fun f hf => ?_, exec_ne_refused i s⟩
  · rw [ht, afterCommand_next, presentNext_of_nil hnil]
  · rw [ht, afterCommand_next, presentNext_of_cons hcons]
  · rw [hf, afterCommand_fault]

/-! ### Only a reserved command raises `cmd_err` -/

/-- The ids that a start may name are those of the five patterns (R68). -/
theorem exists_toBits_eq {pat : BitVec 3} (h : pat.toNat ≤ 4) : ∃ p : PatternId, pat = p.toBits := by
  obtain h | h | h | h | h : pat.toNat = 0 ∨ pat.toNat = 1 ∨ pat.toNat = 2 ∨ pat.toNat = 3 ∨ pat.toNat = 4 := by omega
  · exact ⟨.hornSteady, BitVec.eq_of_toNat_eq h⟩
  · exact ⟨.bellDecay, BitVec.eq_of_toNat_eq h⟩
  · exact ⟨.chargeChime, BitVec.eq_of_toNat_eq h⟩
  · exact ⟨.lowBattChime, BitVec.eq_of_toNat_eq h⟩
  · exact ⟨.miniHonk, BitVec.eq_of_toNat_eq h⟩

theorem poll_result {s t : State} (h : poll s = .ok t) : t.result = s.result := by
  rcases poll_cases h with ⟨-, rfl⟩ | ⟨-, hg⟩
  · exact swUpdate_result s
  · obtain ⟨-, -, -, hresult, -⟩ := lvgUpdate_frame hg
    rw [hresult, swUpdate_result]

theorem exec_seqStart_cmdErr {pat : BitVec 3} {s t : State} (hpat : pat.toNat ≤ 4) (h : exec (.seqStart pat) s = .next t) :
    t.result.cmdErr = false := by
  obtain ⟨p, rfl⟩ := exists_toBits_eq hpat
  rw [exec_seqStart_toBits] at h
  cases h
  rw [seqStart_result]
  rfl

/-- A well-formed instruction starts from the zero result and writes `res_bool` or the tone result at most (R27, R163). -/
theorem exec_cmdErr {i : Instr} {s t : State} (hwf : i.wf = true) (h : exec i s = .next t) : t.result.cmdErr = false := by
  cases i with
  | nop | swGet | swClear | seqAbort | pwmCalc _ _ | endWord => cases h; rfl
  | swUpdate => cases h; rw [swUpdate_result]; rfl
  | poll => rw [poll_result (outcomeOf_eq_next.mp h)]; rfl
  | lvgUpdate =>
    obtain ⟨-, -, -, hresult, -⟩ := lvgUpdate_frame (outcomeOf_eq_next.mp h)
    rw [hresult]
    rfl
  | seqStart pat => exact exec_seqStart_cmdErr (of_decide_eq_true hwf) h
  | seqUpdate =>
    obtain ⟨playing, u, hu, rfl⟩ := execSeqUpdate_eq_next h
    obtain ⟨-, -, -, -, -, hresult, -⟩ := seqUpdate_frame hu
    rw [State.setResBool_result, hresult]
    rfl
  | stepWord d f u =>
    have hd : d ≠ 0#16 := of_decide_eq_true hwf
    rw [exec_stepWord_of_ne_zero hd] at h
    cases h
    rfl

theorem step_cmdErr_of_decode {s t : State} {i : Instr} (hdecode : decodeCommand s.pins.cmd = .ok i)
    (h : step s = .next t) : t.result.cmdErr = false := by
  rw [step_of_decode hdecode] at h
  obtain ⟨u, hu, rfl⟩ := afterCommand_eq_next h
  rw [presentNext_result, exec_cmdErr (wf_of_decodeCommand hdecode) hu]

/-! ### A loaded program holds no reserved command -/

theorem decodes_of_findReserved_eq_none {ins : List Inputs} (h : findReserved ins = none) :
    ∀ j ∈ ins, ∃ i, decodeCommand j.cmd = .ok i := by
  induction ins with
  | nil => nofun
  | cons k rest ih =>
    unfold findReserved at h
    split at h
    next i hi => exact List.forall_mem_cons.mpr ⟨⟨i, hi⟩, ih h⟩
    next => cases h

theorem loadProgram_eq_ok {c : Config} {lines : List Line} {s : State} (h : loadProgram c lines = .ok s) :
    ∃ ins, findReserved ins = none ∧ s = State.loadInputs c ins := by
  unfold loadProgram at h
  split at h
  next => cases h
  next ins _ =>
    split at h
    next => cases h
    next hnone => exact ⟨ins, hnone, (Except.ok.inj h).symm⟩

/-- The inputs of a state loaded with a sequence are those of the sequence, or the initial ones where it is empty. -/
theorem loadInputs_inputs {c : Config} {ins : List Inputs} {j : Inputs}
    (h : j = (State.loadInputs c ins).pins ∨ j ∈ (State.loadInputs c ins).upcoming) :
    j ∈ ins ∨ j = Inputs.initial c := by
  cases ins with
  | nil =>
    rcases h with rfl | h
    · exact .inr rfl
    · cases h
  | cons k rest => exact .inl (List.mem_cons.mpr h)

/-- A host that has presented nothing shows the word of `NOP` (log entry 2). -/
theorem decodeCommand_initial (c : Config) : decodeCommand (Inputs.initial c).cmd = .ok .nop :=
  decodeCommand_of_op_zero (w := 0) (by decide)

theorem decodes_of_loadProgram {c : Config} {lines : List Line} {s : State} {j : Inputs}
    (h : loadProgram c lines = .ok s) (hj : j = s.pins ∨ j ∈ s.upcoming) : ∃ i, decodeCommand j.cmd = .ok i := by
  obtain ⟨ins, hnone, rfl⟩ := loadProgram_eq_ok h
  rcases loadInputs_inputs hj with hmem | rfl
  · exact decodes_of_findReserved_eq_none hnone j hmem
  · exact ⟨.nop, decodeCommand_initial c⟩

/-- Settles O10: the reserved words are those that do not decode, and the step of such a word is the defined no-op. -/
theorem reservedCommandIsHarmless : Obligations.ReservedCommandIsHarmless := by
  unfold Obligations.ReservedCommandIsHarmless
  extract_lets reserved
  have hreserved (w : CommandWord) : (∃ e, decodeCommand w = .error e) ↔ reserved w :=
    reservedEncodingsAreExactlyThese w
  refine ⟨fun s hs => ?_, fun s t hs hstep => ?_, fun c lines s hload j hj hbad => ?_⟩
  · obtain ⟨e, he⟩ := (hreserved _).mpr hs
    exact ⟨_, step_of_reserved he, by simp [Result.zero]⟩
  · cases hdecode : decodeCommand s.pins.cmd with
    | ok i => exact step_cmdErr_of_decode hdecode hstep
    | error e => exact absurd ((hreserved _).mp ⟨e, hdecode⟩) hs
  · obtain ⟨i, hi⟩ := decodes_of_loadProgram hload hj
    obtain ⟨e, he⟩ := (hreserved _).mpr hbad
    rw [hi] at he
    cases he

end Sys2Proof.Machine

/-! ## `POLL`: R161, R165, R203 -/

namespace Sys2Proof

theorem decodeCommand_of_op_one {w : CommandWord} (h : opField w = 1#4) : decodeCommand w = .ok .poll :=
  decodeCommand_of_op h (by decide) (by decide)

end Sys2Proof

namespace Sys2Proof.Machine

/-! ### A poll by the input `charging` -/

section
variable {s t : State}

theorem exec_lvgUpdate (s : State) : exec .lvgUpdate s = outcomeOf (lvgUpdate s.begin) := rfl

theorem exec_poll_of_charging (h : s.pins.charging = true) : exec .poll s = .next s.begin.swUpdate := by
  have hpoll : poll s.begin = .ok s.begin.swUpdate := if_pos (by rwa [swUpdate_pins])
  exact congrArg outcomeOf hpoll

theorem begin_swUpdate_begin (s : State) : s.begin.swUpdate.begin = s.begin.swUpdate := by
  rw [swUpdate_eq]
  rfl

/-- The guard's update clears outputs that the switch update has left clear. -/
theorem exec_poll_of_not_charging (h : s.pins.charging = false) :
    exec .poll s = exec .lvgUpdate s.begin.swUpdate := by
  have hpoll : poll s.begin = lvgUpdate s.begin.swUpdate := if_neg (by rw [swUpdate_pins]; exact Bool.eq_false_iff.mp h)
  calc exec .poll s
    _ = outcomeOf (lvgUpdate s.begin.swUpdate) := congrArg outcomeOf hpoll
    _ = exec .lvgUpdate s.begin.swUpdate := by rw [exec_lvgUpdate, begin_swUpdate_begin]

/-! ### Both gates of a poll are shut when it has run -/

theorem swUpdate_of_noTick (htick : s.tickIn = s.dsc.lastTick) : s.swUpdate = s := if_pos htick

theorem tickIn_of_inputs (hconfig : t.config = s.config) (hpins : t.pins = s.pins) : t.tickIn = s.tickIn := by
  simp only [State.tickIn, State.par, hconfig, hpins]

/-- A poll has taken its tick into the switch, and into the guard unless charging (R8). -/
theorem exec_poll_takesTick (h : exec .poll s = .next t) :
    t.tickIn = t.dsc.lastTick ∧ (t.pins.charging = false → t.tickIn = t.lvg.lastTick) := by
  obtain ⟨hconfig, hpins, -⟩ := exec_keepsInputs h
  rw [tickIn_of_inputs hconfig hpins, hpins]
  rcases poll_cases (outcomeOf_eq_next.mp h) with ⟨hcharging, rfl⟩ | ⟨-, hg⟩
  · rw [State.begin_pins] at hcharging
    simp [hcharging]
  · obtain ⟨-, -, -, -, -, hswitch, hguard⟩ := lvgUpdate_frame hg
    simp [hswitch, hguard]

/-- With its gates shut a poll leaves nothing but cleared outputs. -/
theorem exec_poll_of_noTick (hswitch : s.tickIn = s.dsc.lastTick)
    (hguard : s.pins.charging = false → s.tickIn = s.lvg.lastTick) : exec .poll s = .next s.begin := by
  have hsw : s.begin.swUpdate = s.begin := swUpdate_of_noTick hswitch
  cases hcharging : s.pins.charging with
  | true => rw [exec_poll_of_charging hcharging, hsw]
  | false => rw [exec_poll_of_not_charging hcharging, hsw, exec_lvgUpdate_of_noTick (s := s.begin) (hguard hcharging)]; rfl

end

/-- Settles O39. -/
theorem pollIsSwitchThenGuard : Obligations.PollIsSwitchThenGuard := by
  refine ⟨fun _ => decodeCommand_of_op_one, fun s u hu => ?_⟩
  obtain rfl : s.begin.swUpdate = u := Host.Outcome.next.inj hu
  exact ⟨exec_poll_of_charging, exec_poll_of_not_charging⟩

/-- Settles O40: the first poll leaves its gates shut for the second. -/
theorem secondPollOfATickDoesNothing : Obligations.SecondPollOfATickDoesNothing := by
  intro s t h
  obtain ⟨hswitch, hguard⟩ := exec_poll_takesTick h
  exact exec_poll_of_noTick hswitch hguard

/-- Settles O41: while charging a poll is the switch update, which writes DSC registers alone. -/
theorem chargingFreezesTheGuard : Obligations.ChargingFreezesTheGuard := by
  intro s t hcharging h
  rw [exec_poll_of_charging hcharging] at h
  cases h
  simp

end Sys2Proof.Machine

/-! ## The horn line and the sequencer are never both active: R146

The exclusion is kept because the horn goes on only in CHECK_HORN_ACTIVE, whose exit switches it off, and the sequencer is
started only on the way into CHECK_BELL or END_BEEP, which are left idle. -/

namespace Sys2Proof.Machine

namespace State.Exclusive

variable {s t : State}

/-! ### What the exclusion says in a given state of the guard -/

theorem hornOut_of_ne (h : s.Exclusive) (hstate : s.lvg.state ≠ .checkHornActive) : s.out.hornOut = false :=
  Bool.eq_false_iff.mpr fun hon => hstate (h.hornOnlyActive hon)

theorem idle_of_ne (h : s.Exclusive) (hbell : s.lvg.state ≠ .checkBell) (hbeep : s.lvg.state ≠ .endBeep) :
    s.tse.active = false :=
  Bool.eq_false_iff.mpr fun hplays => (h.playsOnlyBellOrBeep hplays).elim hbell hbeep

/-! ### The ways to meet it, by the state of the guard -/

/-- It depends on four registers only. -/
theorem of_same (h : s.Exclusive) (hstate : t.lvg.state = s.lvg.state) (hactive : t.tse.active = s.tse.active)
    (hhorn : t.out.hornOut = s.out.hornOut) (htone : t.out.tone = s.out.tone) : t.Exclusive where
  hornOnlyActive := by rw [hstate, hhorn]; exact h.hornOnlyActive
  playsOnlyBellOrBeep := by rw [hstate, hactive]; exact h.playsOnlyBellOrBeep
  quietBeforeAndDead := by rw [hstate, hhorn, hactive, htone]; exact h.quietBeforeAndDead

/-- Nothing is on and no tone is programmed: any state of the guard will do. -/
theorem of_quiet (hhorn : t.out.hornOut = false) (hactive : t.tse.active = false) (htone : t.out.tone = ⟨0, 0⟩) :
    t.Exclusive where
  hornOnlyActive hon := absurd hon (Bool.eq_false_iff.mp hhorn)
  playsOnlyBellOrBeep hplays := absurd hplays (Bool.eq_false_iff.mp hactive)
  quietBeforeAndDead _ := ⟨hhorn, hactive, htone⟩

theorem of_honking (hstate : t.lvg.state = .checkHornActive) (hactive : t.tse.active = false) : t.Exclusive where
  hornOnlyActive _ := hstate
  playsOnlyBellOrBeep hplays := absurd hplays (Bool.eq_false_iff.mp hactive)
  quietBeforeAndDead := by simp [hstate]

theorem of_playing (hstate : t.lvg.state = .checkBell ∨ t.lvg.state = .endBeep) (hhorn : t.out.hornOut = false) :
    t.Exclusive where
  hornOnlyActive hon := absurd hon (Bool.eq_false_iff.mp hhorn)
  playsOnlyBellOrBeep _ := hstate
  quietBeforeAndDead := by rcases hstate with hstate | hstate <;> simp [hstate]

theorem of_waiting (hstate : t.lvg.state = .checkHornIdle) (hhorn : t.out.hornOut = false)
    (hactive : t.tse.active = false) : t.Exclusive where
  hornOnlyActive hon := absurd hon (Bool.eq_false_iff.mp hhorn)
  playsOnlyBellOrBeep hplays := absurd hplays (Bool.eq_false_iff.mp hactive)
  quietBeforeAndDead := by simp [hstate]

end State.Exclusive

/-! ### The handlers of the guard, each in its own state -/

section
variable {sw playing : Bool} {s t : State}

theorem guardInit_exclusive (sw : Bool) (h : s.Exclusive) (hstate : s.lvg.state = .init) :
    (guardInit sw s).Exclusive := by
  obtain ⟨hhorn, hactive, htone⟩ := h.quietBeforeAndDead (.inl hstate)
  rw [guardInit_eq]
  exact .of_quiet hhorn hactive htone

theorem guardKill_exclusive (h : s.Exclusive) (hstate : s.lvg.state = .kill) : (guardKill s).Exclusive := by
  obtain ⟨hhorn, hactive, htone⟩ := h.quietBeforeAndDead (.inr (.inl hstate))
  rw [guardKill_eq]
  split_ifs <;> exact .of_quiet hhorn hactive htone

/-- While the guard is in CHECK_BELL or END_BEEP, a sequencer update may play on or end the pattern, with the horn off. -/
theorem seqUpdate_exclusive (h : s.Exclusive) (hstate : s.lvg.state = .checkBell ∨ s.lvg.state = .endBeep)
    (hu : seqUpdate s = .ok (playing, t)) : t.Exclusive := by
  obtain ⟨-, hlvg, -, -, -, -, hhorn, -⟩ := seqUpdate_frame hu
  have hoff : s.out.hornOut = false := h.hornOut_of_ne (by rcases hstate with hstate | hstate <;> simp [hstate])
  exact .of_playing (by rwa [hlvg]) (hhorn.trans hoff)

theorem guardCheckBell_exclusive (h : s.Exclusive) (hstate : s.lvg.state = .checkBell)
    (hb : guardCheckBell sw s = .ok t) : t.Exclusive := by
  obtain ⟨playing, u, hu, hcases⟩ := guardCheckBell_cases hb
  obtain ⟨-, hlvg, -⟩ := seqUpdate_frame hu
  have hexcl : u.Exclusive := seqUpdate_exclusive h (.inl hstate) hu
  have hoff : u.out.hornOut = false := hexcl.hornOut_of_ne (by simp [hlvg, hstate])
  have hplaying : playing = u.tse.active := seqUpdate_playing hu
  rcases hcases with ⟨-, -, rfl⟩ | ⟨-, -, rfl⟩ | ⟨-, -, rfl⟩ | ⟨hdone, -, rfl⟩
  · exact .of_honking rfl rfl
  · exact hexcl
  · exact .of_playing (.inr rfl) (by simpa using hoff)
  · exact .of_waiting rfl hoff (hplaying.symm.trans hdone)

theorem guardCheckHornIdle_exclusive (sw : Bool) (h : s.Exclusive) (hstate : s.lvg.state = .checkHornIdle) :
    (guardCheckHornIdle sw s).Exclusive := by
  have hactive : s.tse.active = false := h.idle_of_ne (by simp [hstate]) (by simp [hstate])
  rw [guardCheckHornIdle_eq]
  split_ifs
  · exact .of_honking rfl hactive
  · exact .of_playing (.inr rfl) (by simp)
  · exact .of_waiting hstate rfl hactive

theorem guardCheckHornActive_exclusive (sw : Bool) (h : s.Exclusive) (hstate : s.lvg.state = .checkHornActive) :
    (guardCheckHornActive sw s).Exclusive := by
  have hactive : s.tse.active = false := h.idle_of_ne (by simp [hstate]) (by simp [hstate])
  rw [guardCheckHornActive_eq]
  split
  · rw [guardHeldTick_eq]
    exact .of_honking hstate hactive
  · exact .of_playing (.inl rfl) (by simp)

theorem endBeepFallthrough_exclusive (h : s.Exclusive) : s.endBeepFallthrough.Exclusive := by
  rw [endBeepFallthrough_eq]
  split
  · exact h.of_same rfl rfl rfl rfl
  · exact h

theorem guardEndBeep_exclusive (h : s.Exclusive) (hstate : s.lvg.state = .endBeep)
    (he : guardEndBeep sw s = .ok t) : t.Exclusive := by
  rcases guardEndBeep_cases he with ⟨-, rfl⟩ | ⟨u, -, hu, rfl⟩ | ⟨u, -, hu, rfl⟩
  · exact endBeepFallthrough_exclusive (.of_honking rfl rfl)
  · exact endBeepFallthrough_exclusive (seqUpdate_exclusive h (.inr hstate) hu)
  · obtain ⟨-, hlvg, -⟩ := seqUpdate_frame hu
    exact endBeepFallthrough_exclusive (.of_playing (.inr (by simp [hlvg, hstate])) rfl)

/-! ### The commands -/

theorem lvgUpdate_exclusive (h : s.Exclusive) (hu : lvgUpdate s = .ok t) : t.Exclusive := by
  have htake : s.takeGuardTick.Exclusive := h.of_same rfl rfl rfl rfl
  rcases lvgUpdate_cases hu with ⟨-, rfl⟩ | ⟨-, ⟨hst, rfl⟩ | ⟨hst, rfl⟩ | ⟨hst, hb⟩ | ⟨hst, rfl⟩ | ⟨hst, rfl⟩ |
    ⟨hst, he⟩ | ⟨-, rfl⟩⟩
  · exact h
  · exact guardInit_exclusive _ htake hst
  · exact guardKill_exclusive htake hst
  · exact guardCheckBell_exclusive htake hst hb
  · exact guardCheckHornIdle_exclusive _ htake hst
  · exact guardCheckHornActive_exclusive _ htake hst
  · exact guardEndBeep_exclusive htake hst he
  · exact htake.of_same rfl rfl rfl rfl

theorem poll_exclusive (h : s.Exclusive) (hp : poll s = .ok t) : t.Exclusive := by
  have hupdated : s.swUpdate.Exclusive := h.of_same (by simp) (by simp) (by simp) (by simp)
  rcases poll_cases hp with ⟨-, rfl⟩ | ⟨-, hg⟩
  · exact hupdated
  · exact lvgUpdate_exclusive hupdated hg

theorem State.WritesOnlySwitch.exclusive (hw : s.WritesOnlySwitch t) (h : s.Exclusive) : t.Exclusive :=
  h.of_same (by rw [hw.lvg]) (by rw [hw.tse]) (by rw [hw.out]) (by rw [hw.out])

theorem exec_exclusive {i : Instr} (h : s.Exclusive) (hi : i.drivesSequencer = false) (he : exec i s = .next t) :
    t.Exclusive := by
  have hbegin : s.begin.Exclusive := h.of_same rfl rfl rfl rfl
  by_cases hpoll : i = .poll
  · subst hpoll
    exact poll_exclusive hbegin (outcomeOf_eq_next.mp he)
  by_cases hlvg : i = .lvgUpdate
  · subst hlvg
    exact lvgUpdate_exclusive hbegin (outcomeOf_eq_next.mp he)
  · exact (exec_writesOnlySwitch hi hpoll hlvg he).exclusive h

theorem presentNext_exclusive (h : s.Exclusive) : s.presentNext.Exclusive :=
  h.of_same (by simp) (by simp) (by simp) (by simp)

end

/-- Settles O51: the handlers keep the exclusion, each in its own state of the guard; a command that is neither the guard's
nor the sequencer's, a reserved one and the presenting of inputs do not touch its registers. -/
theorem stepKeepsMutualExclusion : Obligations.StepKeepsMutualExclusion := by
  intro s t h hhost hstep
  rcases step_cases hstep with ⟨i, u, hdecode, hu, rfl⟩ | ⟨e, -, rfl⟩
  · exact presentNext_exclusive (exec_exclusive h (hhost i hdecode) hu)
  · exact presentNext_exclusive (h.of_same rfl rfl rfl rfl)

end Sys2Proof.Machine

/-! ## Inside its pattern the sequencer makes every command complete: R116, R170

The only fault is a ROM read outside the ROM, and only an update of the sequencer can raise it; a sequencer inside its pattern
reads at most its sentinel. -/

namespace Sys2Proof.Machine

section
variable {s t : State}

/-- The sequencer's place depends on its own registers and the configuration only. -/
theorem State.InPattern.of_same (h : s.InPattern) (htse : t.tse = s.tse) (hconfig : t.config = s.config) :
    t.InPattern := by
  rw [State.InPattern, State.par, hconfig, htse]
  exact h

/-! ### The updates that can run the sequencer -/

theorem guardCheckBell_ok_of_inPattern (sw : Bool) (h : s.InPattern) : ∃ t, guardCheckBell sw s = .ok t := by
  obtain ⟨playing, u, hu⟩ := seqUpdate_ok_of_inPattern h
  cases playing with
  | true => exact ⟨_, guardCheckBell_of_playing hu⟩
  | false => exact ⟨_, guardCheckBell_of_finished hu⟩

theorem guardEndBeep_ok_of_inPattern (sw : Bool) (h : s.InPattern) : ∃ t, guardEndBeep sw s = .ok t := by
  obtain ⟨playing, u, hu⟩ := seqUpdate_ok_of_inPattern h
  cases sw with
  | true => exact ⟨_, guardEndBeep_of_pressed⟩
  | false =>
    cases playing with
    | true => exact ⟨_, guardEndBeep_of_playing hu⟩
    | false => exact ⟨_, guardEndBeep_of_finished hu⟩

/-- Of the eight handlers only those of CHECK_BELL and END_BEEP update the sequencer. -/
theorem guardHandler_ok_of_inPattern (sw : Bool) (h : s.InPattern) : ∃ t, guardHandler sw s = .ok t := by
  cases hstate : s.lvg.state with
  | init => exact ⟨_, guardHandler_of_init hstate⟩
  | kill => exact ⟨_, guardHandler_of_kill hstate⟩
  | checkBell => rw [guardHandler_of_checkBell hstate]; exact guardCheckBell_ok_of_inPattern sw h
  | checkHornIdle => exact ⟨_, guardHandler_of_checkHornIdle hstate⟩
  | checkHornActive => exact ⟨_, guardHandler_of_checkHornActive hstate⟩
  | endBeep => rw [guardHandler_of_endBeep hstate]; exact guardEndBeep_ok_of_inPattern sw h
  | dead => exact ⟨_, guardHandler_of_dead_or_reserved (.inl hstate)⟩
  | reserved => exact ⟨_, guardHandler_of_dead_or_reserved (.inr hstate)⟩

/-! ### The three commands that can fault -/

theorem exec_seqUpdate_completes (h : s.InPattern) :
    ∃ t, exec .seqUpdate s = .next t ∧ t.result = ⟨t.tse.active, 0, 0, false⟩ := by
  obtain ⟨playing, u, hu⟩ := seqUpdate_ok_of_inPattern (s := s.begin) h
  obtain rfl : playing = u.tse.active := seqUpdate_playing hu
  exact ⟨_, exec_seqUpdate_of_ok hu, rfl⟩

theorem exec_lvgUpdate_completes (h : s.InPattern) : ∃ t, exec .lvgUpdate s = .next t := by
  by_cases htick : s.tickIn = s.lvg.lastTick
  · exact ⟨_, exec_lvgUpdate_of_noTick htick⟩
  · obtain ⟨t, ht⟩ := guardHandler_ok_of_inPattern s.dsc.status (h.of_same (t := s.begin.takeGuardTick) rfl rfl)
    exact ⟨t, exec_lvgUpdate_of_handler htick ht⟩

theorem exec_poll_completes (h : s.InPattern) : ∃ t, exec .poll s = .next t := by
  cases hcharging : s.pins.charging with
  | true => exact ⟨_, exec_poll_of_charging hcharging⟩
  | false =>
    rw [exec_poll_of_not_charging hcharging]
    exact exec_lvgUpdate_completes (h.of_same (swUpdate_tse s.begin) (swUpdate_config s.begin))

/-! ### Every command -/

theorem execSeqStart_completes (pat : BitVec 3) (s : State) : ∃ t, execSeqStart pat s = .next t := by
  unfold execSeqStart
  split <;> exact ⟨_, rfl⟩

theorem exec_completes (i : Instr) (h : s.InPattern) : ∃ t, exec i s = .next t := by
  cases i with
  | nop | swUpdate | swGet | swClear | seqAbort | pwmCalc _ _ | stepWord _ _ _ | endWord => exact ⟨_, rfl⟩
  | seqStart pat => exact execSeqStart_completes pat s
  | seqUpdate =>
    obtain ⟨t, ht, -⟩ := exec_seqUpdate_completes h
    exact ⟨t, ht⟩
  | lvgUpdate => exact exec_lvgUpdate_completes h
  | poll => exact exec_poll_completes h

end

/-- Settles O42: the updates complete, and the frames of those that do give the result and the tick taken. -/
theorem updatesComplete : Obligations.UpdatesComplete := by
  refine fun s h => ⟨exec_seqUpdate_completes h, ?lvgUpdate, ?poll⟩
  case lvgUpdate =>
    obtain ⟨t, ht⟩ := exec_lvgUpdate_completes h
    obtain ⟨-, -, -, hresult, -, -, htick⟩ := lvgUpdate_frame (outcomeOf_eq_next.mp ht)
    exact ⟨t, ht, hresult, htick⟩
  case poll =>
    obtain ⟨t, ht⟩ := exec_poll_completes h
    obtain ⟨hconfig, hpins, -⟩ := exec_keepsInputs ht
    obtain ⟨hswitch, -⟩ := exec_poll_takesTick ht
    exact ⟨t, ht, poll_result (outcomeOf_eq_next.mp ht), hswitch.symm.trans (tickIn_of_inputs hconfig hpins)⟩

/-- Settles O43: of the invariant the sequencer's place is enough; a reserved word is the defined no-op. -/
theorem everyCommandCompletes : Obligations.EveryCommandCompletes := by
  intro s h
  cases hdecode : decodeCommand s.pins.cmd with
  | ok i =>
    obtain ⟨t, ht⟩ := exec_completes i h.inPattern
    exact ⟨t.presentNext, by rw [step_of_decode hdecode, ht, afterCommand_next]⟩
  | error e => exact ⟨_, step_of_reserved hdecode⟩

end Sys2Proof.Machine

/-! ## Reset: R196 to R198 -/

namespace Sys2Proof.Machine

/-! ### What reset leaves in each sub-block -/

section
variable (c : Config)

@[simp] theorem resetWith_dsc : (State.resetWith c).dsc = ⟨c.params.debSeed, false, 0⟩ := rfl

@[simp] theorem resetWith_tse : (State.resetWith c).tse = ⟨.hornSteady, 0, 0, 0, false⟩ := rfl

@[simp] theorem resetWith_out : (State.resetWith c).out = ⟨⟨0, 0⟩, false, false, .critical⟩ := rfl

@[simp] theorem resetWith_lvg : (State.resetWith c).lvg = ⟨.init, 0, 0, 0, false, .chargeChime, 0⟩ := rfl

@[simp] theorem resetWith_config : (State.resetWith c).config = c := rfl

/-- Reset leaves no result and no event for a command to clear (R197). -/
theorem resetWith_withPins_begin (pins : Inputs) :
    ((State.resetWith c).withPins pins).begin = (State.resetWith c).withPins pins := rfl

theorem resetWith_withPins_tickIn (pins : Inputs) :
    ((State.resetWith c).withPins pins).tickIn = pins.tick % 2 ^ c.params.tickW := rfl

end

/-! ### An update whose gate is shut -/

section
variable {s : State}

theorem exec_swUpdate_of_noTick (htick : s.tickIn = s.dsc.lastTick) : exec .swUpdate s = .next s.begin := by
  rw [exec_swUpdate, swUpdate_of_noTick (s := s.begin) htick]

/-- The update still answers whether the sequencer is playing (R112). -/
theorem exec_seqUpdate_of_noTick (htick : s.tickIn = s.tse.lastTick) :
    exec .seqUpdate s = .next (s.begin.setResBool s.tse.active) :=
  exec_seqUpdate_of_ok (seqUpdate_of_noTick (s := s.begin) htick)

/-- The answer of an idle sequencer is the cleared result. -/
theorem begin_setResBool_of_idle (hidle : s.tse.active = false) : s.begin.setResBool s.tse.active = s.begin := by
  rw [hidle]
  rfl

end

/-- Settles O46. -/
theorem resetValuesAreTheSpecs : Obligations.ResetValuesAreTheSpecs :=
  fun c => ⟨resetWith_dsc c, resetWith_tse c, resetWith_out c, resetWith_lvg c, resetWith_config c⟩

/-- Settles O47: the three last-tick records reset to 0, so at tick 0 every gate is shut and an update only clears outputs that
reset left clear. -/
theorem updatesAtTickZeroAfterResetDoNothing : Obligations.UpdatesAtTickZeroAfterResetDoNothing := by
  intro c pins i hzero hi
  have htick : ((State.resetWith c).withPins pins).tickIn = 0 := (resetWith_withPins_tickIn c pins).trans hzero
  have hclear := resetWith_withPins_begin c pins
  rcases hi with rfl | rfl | rfl | rfl
  case inl => rw [exec_poll_of_noTick htick fun _ => htick, hclear]
  case inr.inl => rw [exec_swUpdate_of_noTick htick, hclear]
  case inr.inr.inl => rw [exec_seqUpdate_of_noTick htick, begin_setResBool_of_idle rfl, hclear]
  case inr.inr.inr => rw [exec_lvgUpdate_of_noTick htick, hclear]

end Sys2Proof.Machine

/-! ## The invariant of the block: R35, R116

The invariant is said again sub-block by sub-block, so that an operation has to answer only for the registers it writes. -/

namespace Sys2Proof.Machine

/-! ### The invariant of each sub-block -/

/-- The ranges of the DSC registers (R22). -/
structure Dsc.InRange (p : Params) (d : Dsc) : Prop where
  count : d.count ≤ p.debMax
  lastTick : d.lastTick < 2 ^ p.tickW

/-- The ranges of the TSE registers (R23), and the place of a sequencer that plays (R116). -/
structure Tse.InRange (p : Params) (q : Tse) : Prop where
  remaining : q.remaining ≤ 65535
  lastTick : q.lastTick < 2 ^ p.tickW
  index : q.index < 2 ^ p.idxW
  beforeEnd : q.active = true → ∃ n, p.patternLength q.pattern = some n ∧ q.index < n

/-- The ranges of the two tone registers (R24). -/
structure Tone.InRange (p : Params) (t : Tone) : Prop where
  period : t.period ≤ p.periodMax
  compare : t.compare ≤ t.period

/-- The ranges of the LVG registers other than the timers (R25). -/
structure Lvg.InRange (p : Params) (l : Lvg) : Prop where
  lvCount : l.lvCount ≤ p.lvCountMax
  state : l.state ≠ .reserved
  lastTick : l.lastTick < 2 ^ p.tickW

/-- The invariant, by sub-block. -/
structure State.BlocksInRange (s : State) : Prop where
  dsc : s.dsc.InRange s.par
  tse : s.tse.InRange s.par
  tone : s.out.tone.InRange s.par
  lvg : s.lvg.InRange s.par

theorem inv_iff_blocksInRange (s : State) : s.Inv ↔ s.BlocksInRange where
  mp := fun ⟨r, hindex, hplace⟩ =>
    ⟨⟨r.swCount, r.swTick⟩, ⟨r.remaining, r.seqTick, hindex, hplace⟩, ⟨r.period, r.compare⟩,
      ⟨r.lvCount, r.guardState, r.lvgTick⟩⟩
  mpr := fun ⟨d, q, t, l⟩ =>
    ⟨⟨d.count, l.lvCount, t.period, t.compare, l.state, q.remaining, d.lastTick, q.lastTick, l.lastTick⟩,
      q.index, q.beforeEnd⟩

/-! ### The values that the operations write -/

/-- The tick on the pins fits the last-tick registers (R26). -/
theorem tickIn_lt (s : State) : s.tickIn < 2 ^ s.par.tickW := Nat.mod_lt _ (Nat.two_pow_pos _)

theorem pwmCalc_inRange (p : Params) (freq : BitVec 16) (duty : BitVec 8) : (pwmCalc p freq duty).InRange p :=
  ⟨pwmPeriod_le p _, pwmCompare_le (Nat.min_le_right _ _)⟩

theorem toNat_le_of_sixteenBits (d : BitVec 16) : d.toNat ≤ 65535 := Nat.le_of_lt_succ d.isLt

/-- A word that is no sentinel, standing right after a step of a pattern, is a step of that pattern (R116). -/
theorem lt_patternLength_of_romRead {p : Params} {id : PatternId} {i n : Nat} {w : StepWord}
    (hlen : p.patternLength id = some n) (hi : i ≤ n) (hread : romRead p (stepAddress p id i) = .ok w)
    (hstep : stepDuration w ≠ 0#16) : i < n := by
  obtain ⟨⟨e, he, hend⟩, -⟩ := patternLength_words hlen
  refine lt_of_le_of_ne hi ?_
  rintro rfl
  rw [he] at hread
  cases hread
  exact hstep hend

section
variable {p : Params} {q : Tse}

theorem Tse.InRange.idle (h : q.InRange p) : ({ q with active := false } : Tse).InRange p :=
  ⟨h.remaining, h.lastTick, h.index, nofun⟩

theorem Tse.InRange.enterStep (h : q.InRange p) (d : BitVec 16) : ({ q with remaining := d.toNat } : Tse).InRange p :=
  ⟨toNat_le_of_sixteenBits d, h.lastTick, h.index, h.beforeEnd⟩

end

/-! ### The sequencer's operations, on the TSE registers and the tone -/

/-- A start reads step 0, which is a step of the pattern unless it is the sentinel (R111). -/
theorem seqStart_tse_inRange (id : PatternId) (s : State) : (s.seqStart id).tse.InRange s.par := by
  have hindex : 0 < 2 ^ s.par.idxW := Nat.two_pow_pos _
  rw [seqStart_eq]
  split_ifs with hstep
  · exact ⟨Nat.zero_le _, tickIn_lt s, hindex, nofun⟩
  · obtain ⟨n, hlen, -⟩ := s.config.patternLength_some id
    have hplace : 0 < n := lt_patternLength_of_romRead hlen (Nat.zero_le _) (romRead_stepZero s.config id) hstep
    exact ⟨toNat_le_of_sixteenBits _, tickIn_lt s, hindex, fun _ => ⟨n, hlen, hplace⟩⟩

theorem seqStart_tone_inRange (id : PatternId) {s : State} (h : s.out.tone.InRange s.par) :
    (s.seqStart id).out.tone.InRange s.par := by
  rw [seqStart_eq]
  split_ifs
  · exact h
  · exact pwmCalc_inRange _ _ _

section
variable {s t : State} {playing : Bool}

/-- An update enters the next word only where that is a step, so the index stays below the sentinel (R112, R116). -/
theorem seqUpdate_tse_inRange (h : s.tse.InRange s.par) (hu : seqUpdate s = .ok (playing, t)) :
    t.tse.InRange s.par := by
  have htake : s.takeSeqTick.tse.InRange s.par := ⟨h.remaining, tickIn_lt s, h.index, h.beforeEnd⟩
  rcases seqUpdate_cases hu with ⟨-, -, rfl⟩ | ⟨-, -, -, rfl⟩ | ⟨-, -, -, -, rfl⟩ | ⟨w, -, -, -, -, -, -, rfl⟩ |
    ⟨w, -, hactive, -, hread, hstep, -, rfl⟩
  · exact h
  · exact htake
  · exact ⟨(Nat.sub_le _ _).trans h.remaining, tickIn_lt s, h.index, h.beforeEnd⟩
  · exact htake.idle
  · obtain ⟨n, hlen, hlt⟩ := h.beforeEnd hactive
    have hplace : s.tse.index + 1 < n := lt_patternLength_of_romRead hlen hlt hread hstep
    obtain ⟨m, hlen', hm⟩ := s.config.patternLength_some s.tse.pattern
    obtain rfl : n = m := Option.some.inj (hlen.symm.trans hlen')
    exact ⟨toNat_le_of_sixteenBits _, tickIn_lt s, hplace.trans hm, fun _ => ⟨n, hlen, hplace⟩⟩

theorem seqUpdate_tone_inRange (h : s.out.tone.InRange s.par) (hu : seqUpdate s = .ok (playing, t)) :
    t.out.tone.InRange s.par := by
  rcases seqUpdate_cases hu with ⟨-, -, rfl⟩ | ⟨-, -, -, rfl⟩ | ⟨-, -, -, -, rfl⟩ | ⟨w, -, -, -, -, -, -, rfl⟩ |
    ⟨w, -, -, -, -, -, -, rfl⟩
  · exact h
  · exact h
  · exact h
  · exact h
  · exact pwmCalc_inRange _ _ _

end

/-! ### The shared operations, on all four sub-blocks -/

namespace State.BlocksInRange

variable {s t : State}

/-- The invariant depends on four sub-blocks and the configuration only. -/
theorem of_same (h : s.BlocksInRange) (hdsc : t.dsc = s.dsc) (htse : t.tse = s.tse) (htone : t.out.tone = s.out.tone)
    (hlvg : t.lvg = s.lvg) (hconfig : t.config = s.config) : t.BlocksInRange := by
  have hpar : t.par = s.par := congrArg Config.params hconfig
  exact ⟨by rw [hdsc, hpar]; exact h.dsc, by rw [htse, hpar]; exact h.tse, by rw [htone, hpar]; exact h.tone,
    by rw [hlvg, hpar]; exact h.lvg⟩

/-- Where only the TSE registers and the tone change, it is enough to answer for those. -/
theorem of_sequencer (h : s.BlocksInRange) (htse : t.tse.InRange s.par) (htone : t.out.tone.InRange s.par)
    (hdsc : t.dsc = s.dsc) (hlvg : t.lvg = s.lvg) (hconfig : t.config = s.config) : t.BlocksInRange := by
  have hpar : t.par = s.par := congrArg Config.params hconfig
  exact ⟨by rw [hdsc, hpar]; exact h.dsc, by rw [hpar]; exact htse, by rw [hpar]; exact htone,
    by rw [hlvg, hpar]; exact h.lvg⟩

theorem swUpdate (h : s.BlocksInRange) : s.swUpdate.BlocksInRange := by
  rw [swUpdate_eq]
  refine ⟨?_, h.tse, h.tone, h.lvg⟩
  have hcount := h.dsc.count
  have htick := tickIn_lt s
  dsimp only
  split_ifs
  case pos => exact h.dsc
  all_goals exact ⟨by dsimp only [State.par] at *; omega, htick⟩

theorem seqStart (id : PatternId) (h : s.BlocksInRange) : (s.seqStart id).BlocksInRange :=
  h.of_sequencer (seqStart_tse_inRange id s) (seqStart_tone_inRange id h.tone) (by simp) (by simp) (by simp)

theorem seqUpdate {playing : Bool} (h : s.BlocksInRange) (hu : seqUpdate s = .ok (playing, t)) : t.BlocksInRange := by
  obtain ⟨hdsc, hlvg, hconfig, -⟩ := seqUpdate_frame hu
  exact h.of_sequencer (seqUpdate_tse_inRange h.tse hu) (seqUpdate_tone_inRange h.tone hu) hdsc hlvg hconfig

theorem hornOff (h : s.BlocksInRange) : s.hornOff.BlocksInRange :=
  ⟨h.dsc, h.tse, ⟨h.tone.period, Nat.zero_le _⟩, h.lvg⟩

theorem goTo {g : GuardState} (h : s.BlocksInRange) (hg : g ≠ .reserved) : (s.goTo g).BlocksInRange :=
  ⟨h.dsc, h.tse, h.tone, ⟨h.lvg.lvCount, hg, h.lvg.lastTick⟩⟩

theorem armGuardTimer (v : Nat) (h : s.BlocksInRange) : (s.armGuardTimer v).BlocksInRange :=
  ⟨h.dsc, h.tse, h.tone, ⟨h.lvg.lvCount, h.lvg.state, h.lvg.lastTick⟩⟩

theorem enterActive (h : s.BlocksInRange) : s.enterActive.BlocksInRange :=
  ⟨h.dsc, h.tse, h.tone, ⟨h.lvg.lvCount, nofun, h.lvg.lastTick⟩⟩

theorem seqAbort (h : s.BlocksInRange) : s.seqAbort.BlocksInRange := ⟨h.dsc, h.tse.idle, h.tone, h.lvg⟩

theorem endBeepFallthrough (h : s.BlocksInRange) : s.endBeepFallthrough.BlocksInRange := by
  rw [endBeepFallthrough_eq]
  split
  · exact h.of_same rfl rfl rfl rfl rfl
  · exact h

/-! ### The handlers of the guard -/

theorem guardInit (sw : Bool) (h : s.BlocksInRange) : (guardInit sw s).BlocksInRange :=
  ⟨h.dsc, h.tse, h.tone, ⟨Nat.zero_le _, nofun, h.lvg.lastTick⟩⟩

theorem guardKill (h : s.BlocksInRange) : (guardKill s).BlocksInRange := by
  rw [guardKill_eq]
  split_ifs
  · exact h.goTo nofun
  · exact ⟨h.dsc, h.tse, h.tone, ⟨h.lvg.lvCount, nofun, h.lvg.lastTick⟩⟩
  · exact h.armGuardTimer _

theorem guardCheckBell {sw : Bool} (h : s.BlocksInRange) (hb : guardCheckBell sw s = .ok t) : t.BlocksInRange := by
  obtain ⟨playing, u, hu, hcases⟩ := guardCheckBell_cases hb
  have hupdated : u.BlocksInRange := h.seqUpdate hu
  rcases hcases with ⟨-, -, rfl⟩ | ⟨-, -, rfl⟩ | ⟨-, -, rfl⟩ | ⟨-, -, rfl⟩
  · exact hupdated.seqAbort.enterActive
  · exact hupdated
  · exact (hupdated.seqStart _).goTo nofun
  · exact (hupdated.armGuardTimer _).goTo nofun

theorem guardCheckHornIdle (sw : Bool) (h : s.BlocksInRange) : (guardCheckHornIdle sw s).BlocksInRange := by
  rw [guardCheckHornIdle_eq]
  split_ifs
  · exact h.hornOff.enterActive
  · exact ((h.hornOff.armGuardTimer _).seqStart _).goTo nofun
  · exact h.hornOff.armGuardTimer _

theorem guardHeldTick (h : s.BlocksInRange) : (guardHeldTick s).BlocksInRange := by
  rw [guardHeldTick_eq]
  refine ⟨⟨h.dsc.count, h.dsc.lastTick⟩, h.tse, h.tone, ⟨?_, h.lvg.state, h.lvg.lastTick⟩⟩
  have hcount : s.lvg.lvCount ≤ s.par.lvCountMax := h.lvg.lvCount
  dsimp only
  split
  · exact satInc_le hcount
  · exact (Nat.sub_le _ _).trans hcount

theorem guardCheckHornActive (sw : Bool) (h : s.BlocksInRange) : (guardCheckHornActive sw s).BlocksInRange := by
  have hoff : (s.setHorn false).BlocksInRange := h.of_same rfl rfl rfl rfl rfl
  rw [guardCheckHornActive_eq]
  split
  · exact h.guardHeldTick
  · exact (hoff.seqStart _).goTo nofun

theorem guardEndBeep {sw : Bool} (h : s.BlocksInRange) (he : guardEndBeep sw s = .ok t) : t.BlocksInRange := by
  rcases guardEndBeep_cases he with ⟨-, rfl⟩ | ⟨u, -, hu, rfl⟩ | ⟨u, -, hu, rfl⟩
  · exact h.seqAbort.enterActive.endBeepFallthrough
  · exact (h.seqUpdate hu).endBeepFallthrough
  · exact ((h.seqUpdate hu).hornOff.armGuardTimer 0).endBeepFallthrough

/-! ### The commands -/

theorem lvgUpdate (h : s.BlocksInRange) (hu : lvgUpdate s = .ok t) : t.BlocksInRange := by
  have htake : s.takeGuardTick.BlocksInRange := ⟨h.dsc, h.tse, h.tone, ⟨h.lvg.lvCount, h.lvg.state, tickIn_lt s⟩⟩
  rcases lvgUpdate_cases hu with ⟨-, rfl⟩ | ⟨-, ⟨-, rfl⟩ | ⟨-, rfl⟩ | ⟨-, hb⟩ | ⟨-, rfl⟩ | ⟨-, rfl⟩ | ⟨-, he⟩ | ⟨-, rfl⟩⟩
  · exact h
  · exact htake.guardInit _
  · exact htake.guardKill
  · exact htake.guardCheckBell hb
  · exact htake.guardCheckHornIdle _
  · exact htake.guardCheckHornActive _
  · exact htake.guardEndBeep he
  · exact htake.of_same rfl rfl rfl rfl rfl

theorem poll (h : s.BlocksInRange) (hp : poll s = .ok t) : t.BlocksInRange := by
  rcases poll_cases hp with ⟨-, rfl⟩ | ⟨-, hg⟩
  · exact h.swUpdate
  · exact h.swUpdate.lvgUpdate hg

theorem execSeqStart {pat : BitVec 3} (h : s.BlocksInRange) (he : execSeqStart pat s = .next t) : t.BlocksInRange := by
  have hbegin : s.begin.BlocksInRange := h.of_same rfl rfl rfl rfl rfl
  unfold Machine.execSeqStart at he
  split at he <;> cases he
  · exact hbegin.seqStart _
  · exact h.of_same rfl rfl rfl rfl rfl

theorem execStepWord {d f : BitVec 16} {u : BitVec 8} (h : s.BlocksInRange) (he : execStepWord d f u s = .next t) :
    t.BlocksInRange := by
  cases he
  split
  · exact ⟨h.dsc, h.tse.idle, h.tone, h.lvg⟩
  · exact ⟨h.dsc, h.tse.enterStep d, pwmCalc_inRange _ _ _, h.lvg⟩

/-- Every instruction keeps the invariant, the step words among them. -/
theorem exec {i : Instr} (h : s.BlocksInRange) (he : exec i s = .next t) : t.BlocksInRange := by
  have hbegin : s.begin.BlocksInRange := h.of_same rfl rfl rfl rfl rfl
  cases i with
  | nop | swGet | pwmCalc _ _ => cases he; exact h.of_same rfl rfl rfl rfl rfl
  | poll => exact hbegin.poll (outcomeOf_eq_next.mp he)
  | swUpdate => cases he; exact hbegin.swUpdate
  | swClear => cases he; exact ⟨⟨h.dsc.count, h.dsc.lastTick⟩, h.tse, h.tone, h.lvg⟩
  | seqStart pat => exact h.execSeqStart he
  | seqUpdate =>
    obtain ⟨playing, u, hu, rfl⟩ := execSeqUpdate_eq_next he
    exact (hbegin.seqUpdate hu).of_same rfl rfl rfl rfl rfl
  | seqAbort | endWord => cases he; exact hbegin.seqAbort
  | lvgUpdate => exact hbegin.lvgUpdate (outcomeOf_eq_next.mp he)
  | stepWord d f u => exact h.execStepWord he

theorem presentNext (h : s.BlocksInRange) : s.presentNext.BlocksInRange :=
  h.of_same (by simp) (by simp) (by simp) (by simp) (by simp)

end State.BlocksInRange

/-- Settles O44: every instruction keeps the invariant of each sub-block; a reserved word and the presenting of inputs do not
touch the registers. -/
theorem stepKeepsInvariant : Obligations.StepKeepsInvariant := by
  intro s t hinv hstep
  rw [inv_iff_blocksInRange] at hinv ⊢
  rcases step_cases hstep with ⟨i, u, -, hu, rfl⟩ | ⟨e, -, rfl⟩
  · exact (hinv.exec hu).presentNext
  · exact State.BlocksInRange.presentNext (hinv.of_same rfl rfl rfl rfl rfl)

end Sys2Proof.Machine

/-! ## How the guard moves: R34, R142 to R144, R147

What a command can do to the state of the guard and to the sticky flag is said once, row by row of the transition table; the
four statements about the guard are read off the rows. -/

namespace Sys2Proof.Machine

/-- One update of the guard on a comparator reading: the state and the sticky flag before, and the two after.  Besides staying
as it is, and confirming low voltage in a held tick, it can take the ten rows of R142 that change the state. -/
inductive GuardRow (tripped : Bool) : GuardState → Bool → GuardState → Bool → Prop
  | stay (g : GuardState) (f : Bool) : GuardRow tripped g f g f
  | confirm (h : tripped = true) : GuardRow tripped .checkHornActive false .checkHornActive true
  | arm (f : Bool) : GuardRow tripped .init f .kill false
  | die (f : Bool) (h : tripped = true) : GuardRow tripped .kill f .dead f
  | survive (f : Bool) : GuardRow tripped .kill f .checkHornActive f
  | pressInBell (f : Bool) : GuardRow tripped .checkBell f .checkHornActive f
  | warnFromBell : GuardRow tripped .checkBell true .endBeep true
  | wait : GuardRow tripped .checkBell false .checkHornIdle false
  | pressInIdle (f : Bool) : GuardRow tripped .checkHornIdle f .checkHornActive f
  | warnFromIdle : GuardRow tripped .checkHornIdle true .endBeep true
  | release (f : Bool) : GuardRow tripped .checkHornActive f .checkBell f
  | pressInBeep (f : Bool) : GuardRow tripped .endBeep f .checkHornActive f

/-- The guard goes from `s` to `t` along a row, on the comparator reading of `s`. -/
def State.GuardMoves (s t : State) : Prop :=
  GuardRow s.pins.cmpTripped s.lvg.state s.lvg.lvSticky t.lvg.state t.lvg.lvSticky

/-! ### What the rows say -/

namespace GuardRow

variable {tripped f f' : Bool} {g g' : GuardState}

theorem mayFollow (h : GuardRow tripped g f g' f') : g' = g ∨ g.mayFollow g' = true := by
  cases h with
  | stay | confirm => exact .inl rfl
  | arm | die | survive | pressInBell | warnFromBell | wait | pressInIdle | warnFromIdle | release | pressInBeep =>
    exact .inr rfl

theorem eq_of_dead (h : GuardRow tripped .dead f g' f') : g' = .dead := by
  cases h; rfl

theorem of_to_init (h : GuardRow tripped g f .init f') : g = .init := by
  cases h; rfl

theorem of_to_dead (h : GuardRow tripped g f .dead f') : g = .dead ∨ (g = .kill ∧ tripped = true) := by
  cases h with
  | stay => exact .inl rfl
  | die _ htripped => exact .inr ⟨rfl, htripped⟩

/-- Only INIT drops the flag. -/
theorem sticky_kept (h : GuardRow tripped g true g' f') : f' = true ∨ g = .init := by
  cases h with
  | arm => exact .inr rfl
  | _ => exact .inl rfl

/-- Only a held tick with the comparator tripped raises the flag. -/
theorem sticky_raised (h : GuardRow tripped g f g' true) :
    f = true ∨ (g = .checkHornActive ∧ tripped = true) := by
  cases h with
  | confirm htripped => exact .inr ⟨rfl, htripped⟩
  | _ => exact .inl rfl

/-- CHECK_HORN_IDLE is entered with the flag down, and left for END_BEEP only with the flag up. -/
theorem idle_notSticky (h : GuardRow tripped g f g' f') (hidle : g = .checkHornIdle → f = false) :
    (g' = .checkHornIdle → f' = false) ∧ ¬(g = .checkHornIdle ∧ g' = .endBeep) := by
  cases h with
  | stay => exact ⟨hidle, by rintro ⟨rfl, hbeep⟩; cases hbeep⟩
  | wait => exact ⟨fun _ => rfl, nofun⟩
  | warnFromIdle => exact absurd (hidle rfl) nofun
  | _ => exact ⟨nofun, by simp⟩

/-- A held tick keeps the flag, or raises it on a tripped reading (R138). -/
theorem hold (f d : Bool) : GuardRow tripped .checkHornActive f .checkHornActive (f || (tripped && d)) := by
  cases f with
  | true => exact .stay _ true
  | false =>
    cases h : tripped && d with
    | true => exact .confirm (Bool.and_eq_true_iff.mp h).1
    | false => exact .stay _ false

end GuardRow

/-! ### The handlers of the guard, each in its own state -/

section
variable {sw : Bool} {s t u : State}

theorem State.GuardMoves.of_lvg_eq (hlvg : t.lvg = s.lvg) : s.GuardMoves t := by
  rw [State.GuardMoves, hlvg]
  exact .stay _ _

/-- What follows a move without touching the guard does not matter. -/
theorem State.GuardMoves.trans_lvg_eq (h : s.GuardMoves t) (hlvg : u.lvg = t.lvg) : s.GuardMoves u := by
  rw [State.GuardMoves, hlvg]
  exact h

/-- What precedes a move without touching the guard or the inputs does not matter. -/
theorem State.GuardMoves.of_lvg_eq_trans (hlvg : t.lvg = s.lvg) (hpins : t.pins = s.pins) (h : t.GuardMoves u) :
    s.GuardMoves u := by
  rw [State.GuardMoves, ← hlvg, ← hpins]
  exact h

theorem guardInit_moves (sw : Bool) (hstate : s.lvg.state = .init) : s.GuardMoves (guardInit sw s) := by
  rw [State.GuardMoves, hstate]
  exact .arm _

theorem guardKill_moves (hstate : s.lvg.state = .kill) : s.GuardMoves (guardKill s) := by
  rw [guardKill_eq, State.GuardMoves, hstate]
  split_ifs with htripped
  · exact .die _ htripped
  · exact .survive _
  · exact hstate ▸ .stay _ _

theorem guardCheckBell_moves (hstate : s.lvg.state = .checkBell) (hb : guardCheckBell sw s = .ok t) : s.GuardMoves t := by
  obtain ⟨playing, u, hu, hcases⟩ := guardCheckBell_cases hb
  obtain ⟨-, hlvg, -, hpins, -⟩ := seqUpdate_frame hu
  refine .of_lvg_eq_trans hlvg hpins ?_
  rw [← hlvg] at hstate
  rcases hcases with ⟨-, -, rfl⟩ | ⟨-, -, rfl⟩ | ⟨-, hflag, rfl⟩ | ⟨-, hflag, rfl⟩
  · rw [State.GuardMoves, hstate]
    exact .pressInBell _
  · exact .of_lvg_eq rfl
  · simp [State.GuardMoves, hstate, hflag, GuardRow.warnFromBell]
  · simp [State.GuardMoves, hstate, hflag, GuardRow.wait]

theorem guardCheckHornIdle_moves (sw : Bool) (hstate : s.lvg.state = .checkHornIdle) :
    s.GuardMoves (guardCheckHornIdle sw s) := by
  rw [guardCheckHornIdle_eq]
  split_ifs with _ hwarn
  · rw [State.GuardMoves, hstate]
    exact .pressInIdle _
  · obtain ⟨-, hflag⟩ := hwarn
    simp [State.GuardMoves, hstate, hflag, GuardRow.warnFromIdle]
  · exact .stay _ _

theorem guardCheckHornActive_moves (sw : Bool) (hstate : s.lvg.state = .checkHornActive) :
    s.GuardMoves (guardCheckHornActive sw s) := by
  rw [guardCheckHornActive_eq]
  split
  · rw [guardHeldTick_eq, State.GuardMoves, hstate]
    exact .hold _ _
  · simp [State.GuardMoves, hstate, GuardRow.release]

/-- The fallthrough writes the red indicator at most (R139). -/
theorem endBeepFallthrough_lvg (s : State) : s.endBeepFallthrough.lvg = s.lvg := by
  rw [endBeepFallthrough_eq]
  split <;> rfl

theorem guardEndBeep_moves (hstate : s.lvg.state = .endBeep) (he : guardEndBeep sw s = .ok t) : s.GuardMoves t := by
  rcases guardEndBeep_cases he with ⟨-, rfl⟩ | ⟨u, -, hu, rfl⟩ | ⟨u, -, hu, rfl⟩
  · rw [State.GuardMoves, hstate, endBeepFallthrough_lvg]
    exact .pressInBeep _
  · obtain ⟨-, hlvg, -⟩ := seqUpdate_frame hu
    exact .of_lvg_eq ((endBeepFallthrough_lvg u).trans hlvg)
  · obtain ⟨-, hlvg, -⟩ := seqUpdate_frame hu
    rw [State.GuardMoves, endBeepFallthrough_lvg, ← hlvg]
    exact .stay _ _

/-! ### The step -/

theorem lvgUpdate_moves (hu : lvgUpdate s = .ok t) : s.GuardMoves t := by
  rcases lvgUpdate_cases hu with ⟨-, rfl⟩ | ⟨-, ⟨hst, rfl⟩ | ⟨hst, rfl⟩ | ⟨hst, hb⟩ | ⟨hst, rfl⟩ | ⟨hst, rfl⟩ |
    ⟨hst, he⟩ | ⟨-, rfl⟩⟩
  · exact .stay _ _
  · exact guardInit_moves (s := s.takeGuardTick) _ hst
  · exact guardKill_moves (s := s.takeGuardTick) hst
  · exact guardCheckBell_moves (s := s.takeGuardTick) hst hb
  · exact guardCheckHornIdle_moves (s := s.takeGuardTick) _ hst
  · exact guardCheckHornActive_moves (s := s.takeGuardTick) _ hst
  · exact guardEndBeep_moves (s := s.takeGuardTick) hst he
  · exact .stay _ _

theorem exec_moves {i : Instr} (he : exec i s = .next t) : s.GuardMoves t := by
  by_cases hpoll : i = .poll
  · subst hpoll
    rcases poll_cases (outcomeOf_eq_next.mp he) with ⟨-, rfl⟩ | ⟨-, hg⟩
    · exact .of_lvg_eq (swUpdate_lvg s.begin)
    · exact .of_lvg_eq_trans (swUpdate_lvg s.begin) (swUpdate_pins s.begin) (lvgUpdate_moves hg)
  by_cases hlvg : i = .lvgUpdate
  · subst hlvg
    exact lvgUpdate_moves (s := s.begin) (outcomeOf_eq_next.mp he)
  · exact .of_lvg_eq (exec_keepsGuard hpoll hlvg he).1

/-- A step moves the guard along a row or leaves it. -/
theorem step_moves (h : step s = .next t) : s.GuardMoves t := by
  rcases step_cases h with ⟨i, u, -, hu, rfl⟩ | ⟨e, -, rfl⟩
  · exact (exec_moves hu).trans_lvg_eq (presentNext_lvg u)
  · exact .of_lvg_eq (by simp)

/-! ### The red indicator: no handler writes it but to assert it -/

theorem endBeepFallthrough_keepsRed (h : s.out.indRed = true) : s.endBeepFallthrough.out.indRed = true := by
  rw [endBeepFallthrough_eq]
  split
  · rfl
  · exact h

theorem guardCheckBell_keepsRed (h : s.out.indRed = true) (hb : guardCheckBell sw s = .ok t) : t.out.indRed = true := by
  obtain ⟨playing, u, hu, hcases⟩ := guardCheckBell_cases hb
  obtain ⟨-, -, -, -, -, -, -, hred, -⟩ := seqUpdate_frame hu
  rcases hcases with ⟨-, -, rfl⟩ | ⟨-, -, rfl⟩ | ⟨-, -, rfl⟩ | ⟨-, -, rfl⟩ <;> simp [hred, h]

theorem guardEndBeep_keepsRed (h : s.out.indRed = true) (he : guardEndBeep sw s = .ok t) : t.out.indRed = true := by
  rcases guardEndBeep_cases he with ⟨-, rfl⟩ | ⟨u, -, hu, rfl⟩ | ⟨u, -, hu, rfl⟩
  · exact endBeepFallthrough_keepsRed h
  · obtain ⟨-, -, -, -, -, -, -, hred, -⟩ := seqUpdate_frame hu
    exact endBeepFallthrough_keepsRed (hred.trans h)
  · obtain ⟨-, -, -, -, -, -, -, hred, -⟩ := seqUpdate_frame hu
    exact endBeepFallthrough_keepsRed (s := u.hornOff.armGuardTimer 0) (hred.trans h)

theorem lvgUpdate_keepsRed (h : s.out.indRed = true) (hu : lvgUpdate s = .ok t) : t.out.indRed = true := by
  rcases lvgUpdate_cases hu with ⟨-, rfl⟩ | ⟨-, ⟨-, rfl⟩ | ⟨-, rfl⟩ | ⟨-, hb⟩ | ⟨-, rfl⟩ | ⟨-, rfl⟩ | ⟨-, he⟩ | ⟨-, rfl⟩⟩
  · exact h
  · exact h
  · rw [guardKill_eq]; split_ifs <;> exact h
  · exact guardCheckBell_keepsRed (s := s.takeGuardTick) h hb
  · rw [guardCheckHornIdle_eq]; split_ifs <;> simp [h]
  · rw [guardCheckHornActive_eq]; split_ifs <;> simp [guardHeldTick_eq, h]
  · exact guardEndBeep_keepsRed (s := s.takeGuardTick) h he
  · rfl

theorem exec_keepsRed {i : Instr} (h : s.out.indRed = true) (he : exec i s = .next t) : t.out.indRed = true := by
  by_cases hpoll : i = .poll
  · subst hpoll
    rcases poll_cases (outcomeOf_eq_next.mp he) with ⟨-, rfl⟩ | ⟨-, hg⟩
    · simpa using h
    · exact lvgUpdate_keepsRed (by simpa using h) hg
  by_cases hlvg : i = .lvgUpdate
  · subst hlvg
    exact lvgUpdate_keepsRed (s := s.begin) h (outcomeOf_eq_next.mp he)
  · obtain ⟨-, -, hred, -⟩ := exec_keepsGuard hpoll hlvg he
    exact hred.trans h

theorem step_keepsRed (h : s.out.indRed = true) (hstep : step s = .next t) : t.out.indRed = true := by
  rcases step_cases hstep with ⟨i, u, -, hu, rfl⟩ | ⟨e, -, rfl⟩
  · rw [presentNext_out]
    exact exec_keepsRed h hu
  · simpa using h

end

/-- Settles O48: the red indicator by what the handlers write, the latches of the guard by the rows it moves along. -/
theorem latchesAreOneWay : Obligations.LatchesAreOneWay := by
  intro s t hstep
  have hmove : s.GuardMoves t := step_moves hstep
  unfold State.GuardMoves at hmove
  refine ⟨fun hred => step_keepsRed hred hstep, fun hdead => ?_, fun hinit => ?_, fun hflag => ?_, fun hflag => ?_⟩
  · rw [hdead] at hmove
    exact hmove.eq_of_dead
  · rw [hinit] at hmove
    exact hmove.of_to_init
  · rw [hflag] at hmove
    exact hmove.sticky_kept
  · rw [hflag] at hmove
    exact hmove.sticky_raised

/-- Settles O49: every row is one of the table or keeps the state. -/
theorem guardMovesAlongTheTable : Obligations.GuardMovesAlongTheTable := fun _ _ hstep =>
  (step_moves hstep).mayFollow

/-- Settles O50: of the rows only KILL's ends in DEAD. -/
theorem deadIsEnteredOnlyFromKill : Obligations.DeadIsEnteredOnlyFromKill := by
  intro s t hstep hdead
  have hmove : s.GuardMoves t := step_moves hstep
  rw [State.GuardMoves, hdead] at hmove
  exact hmove.of_to_dead

/-- Settles O52: the row into CHECK_HORN_IDLE has the flag down, the one from there into END_BEEP has it up. -/
theorem stepKeepsIdleNotSticky : Obligations.StepKeepsIdleNotSticky := fun _ _ hidle hstep =>
  (step_moves hstep).idle_notSticky hidle

end Sys2Proof.Machine

/-! ## Single commands: R73, R91, R100 to R105, R163, and the words of the spec -/

namespace Sys2Proof

/-- Settles O3: each command by its `op`, with its operands read from the word, and each step word by its duration. -/
theorem specWordsDecode : Obligations.SpecWordsDecode := by
  refine ⟨decodeCommand_of_op_zero rfl, decodeCommand_of_op_one rfl, decodeCommand_of_op_two rfl, ?_,
    decodeCommand_of_op_eight rfl, decodeCommand_of_op_nine rfl, decodeStepWord_of_duration_ne_zero (by decide),
    decodeStepWord_of_duration_ne_zero (by decide), decodeStepWord_of_duration_eq_zero rfl⟩
  exact (decodeCommand_of_op_five rfl).trans (decodePattern_of_le (by decide))

/-! ### What an accepted record promises -/

/-- Rule R3. -/
theorem Config.dscFits (c : Config) :
    1 ≤ c.params.debPress ∧ c.params.debPress < c.params.debMax - c.params.debRelease ∧ 1 ≤ c.params.debRelease ∧
      c.params.debSeed ≤ c.params.debMax := by
  obtain ⟨hdsc, -⟩ := (Params.ok_iff c.params).mp c.ok
  exact of_decide_eq_true hdsc

/-- Rule R4. -/
theorem Config.pdcFits (c : Config) :
    1 ≤ c.params.minFreq ∧ c.params.minFreq ≤ c.params.maxFreq ∧ c.params.maxFreq ≤ 65535 ∧ 1 ≤ c.params.prescaler ∧
      1 ≤ c.params.clockHz := by
  obtain ⟨-, hpdc, -⟩ := (Params.ok_iff c.params).mp c.ok
  exact of_decide_eq_true hpdc

/-- Rule R5. -/
theorem Config.lvgFits (c : Config) :
    1 ≤ c.params.lvConfirm ∧ c.params.lvConfirm ≤ c.params.lvCountMax ∧ c.params.TimeoutsFit := by
  obtain ⟨-, -, hlvg, -⟩ := (Params.ok_iff c.params).mp c.ok
  exact of_decide_eq_true hlvg

end Sys2Proof

namespace Sys2Proof.Machine

/-! ### Reserved commands -/

theorem reservedCommand_eq (s : State) :
    s.reservedCommand = { s with result := ⟨false, 0, 0, true⟩, events := [] } := rfl

/-- The ids 5 to 7 name no pattern (R68, R73). -/
theorem ofBits_eq_none {pat : BitVec 3} (h : 5 ≤ pat.toNat) : PatternId.ofBits pat = none := by
  unfold PatternId.ofBits
  split
  case h_6 => rfl
  all_goals omega

theorem exec_seqStart_of_reserved {pat : BitVec 3} (h : 5 ≤ pat.toNat) (s : State) :
    exec (.seqStart pat) s = .next s.reservedCommand := by
  simp only [exec, execSeqStart, ofBits_eq_none h]

/-- Settles O11: a word that does not decode and a start of no pattern are the same no-op; after the word the next inputs are
presented. -/
theorem reservedCommandTakesAStep : Obligations.ReservedCommandTakesAStep := by
  refine ⟨fun s e he hnil => ?_, fun s e j rest he hcons => ?_, fun s pat hpat => exec_seqStart_of_reserved hpat s⟩
  · rw [step_of_reserved he, presentNext_of_nil (s := s.reservedCommand) hnil, reservedCommand_eq]
  · rw [step_of_reserved he, presentNext_of_cons (s := s.reservedCommand) hcons, reservedCommand_eq]

/-! ### The status by the sample -/

/-- The DSC registers after a sample on an elapsed tick (R91). -/
def Dsc.sample (p : Params) (active : Bool) (tick : Nat) (d : Dsc) : Dsc :=
  if active then
    if d.count < p.debMax then
      if d.count + 1 = p.debPress then ⟨p.debMax, true, tick⟩ else ⟨d.count + 1, d.status, tick⟩
    else ⟨d.count, d.status, tick⟩
  else if 0 < d.count then
    if d.count - 1 = p.debMax - p.debRelease then ⟨0, false, tick⟩ else ⟨d.count - 1, d.status, tick⟩
  else ⟨d.count, d.status, tick⟩

theorem swUpdate_of_tick {s : State} (htick : s.tickIn ≠ s.dsc.lastTick) :
    s.swUpdate = { s with dsc := s.dsc.sample s.par s.switchActive s.tickIn } := by
  rw [swUpdate_eq, if_neg htick]
  rfl

theorem Dsc.sample_keepsPress {d : Dsc} (h : d.status = true) (p : Params) (tick : Nat) :
    (d.sample p true tick).status = true := by
  rw [Dsc.sample, if_pos rfl]
  split_ifs
  · rfl
  · exact h
  · exact h

theorem Dsc.sample_pressesNothing {p : Params} {tick : Nat} {d : Dsc} (h : (d.sample p false tick).status = true) :
    d.status = true := by
  rw [Dsc.sample, if_neg Bool.false_ne_true] at h
  split_ifs at h
  · exact h
  · exact h

/-- Settles O16: what an elapsed tick does is decided by the sample, and without one the status stays. -/
theorem statusMovesWithTheSample : Obligations.StatusMovesWithTheSample := by
  intro s t h
  obtain rfl : s.begin.swUpdate = t := Host.Outcome.next.inj h
  by_cases htick : s.tickIn = s.dsc.lastTick
  · rw [swUpdate_of_noTick (s := s.begin) htick]
    exact ⟨fun _ => id, fun _ => id⟩
  · rw [swUpdate_of_tick (s := s.begin) htick, State.begin_switchActive]
    refine ⟨fun hactive hstatus => ?_, fun hinactive => ?_⟩
    · rw [hactive]
      exact Dsc.sample_keepsPress hstatus _ _
    · rw [hinactive]
      exact Dsc.sample_pressesNothing

/-! ### The two numbers of the PDC -/

/-- The division rounds down, so a duty of 100 by the product would be the period as well, and the two cases join (R103). -/
theorem pwmCompare_eq_div (period d : Nat) : pwmCompare period d = period * d / 100 := by
  unfold pwmCompare
  split
  case isTrue h => rw [h, Nat.mul_div_cancel _ (by decide)]
  case isFalse => rfl

/-- Short of a full duty a nonzero period is cut (R103). -/
theorem pwmCompare_eq_period_iff {period d : Nat} (hd : d ≤ 100) :
    pwmCompare period d = period ↔ d = 100 ∨ period = 0 := by
  rw [pwmCompare_eq_div]
  constructor
  · intro heq
    by_contra! hcut
    obtain ⟨hshort, hsound⟩ := hcut
    have hlt : period * d < period * 100 := Nat.mul_lt_mul_of_pos_left (by omega) (by omega)
    omega
  · rintro (rfl | rfl)
    · exact Nat.mul_div_cancel _ (by decide)
    · simp

theorem pwmCompare_mono (period : Nat) {d e : Nat} (h : d ≤ e) : pwmCompare period d ≤ pwmCompare period e := by
  rw [pwmCompare_eq_div, pwmCompare_eq_div]
  exact Nat.div_le_div_right (Nat.mul_le_mul_left _ h)

/-- Up to its floor at 0 and its cap the period is a quotient by the frequency less one (R102). -/
theorem pwmPeriod_eq (p : Params) (f : Nat) : pwmPeriod p f = min (p.clockHz / p.prescaler / f - 1) p.periodMax := by
  unfold pwmPeriod
  dsimp only
  congr 1
  split <;> omega

theorem pwmPeriod_anti (p : Params) {f g : Nat} (hf : 0 < f) (h : f ≤ g) : pwmPeriod p g ≤ pwmPeriod p f := by
  rw [pwmPeriod_eq, pwmPeriod_eq]
  exact min_le_min_right _ (Nat.sub_le_sub_right (Nat.div_le_div_left h hf) 1)

theorem clamp_mono {v w : Nat} (lo hi : Nat) (h : v ≤ w) : clamp v lo hi ≤ clamp w lo hi :=
  min_le_min_right _ (max_le_max_right _ h)

/-- The frequency range of an accepted record leaves out 0 (R4). -/
theorem clamp_freq_pos (c : Config) (f : Nat) : 0 < clamp f c.params.minFreq c.params.maxFreq := by
  obtain ⟨hmin, hmax, -⟩ := c.pdcFits
  exact lt_min (lt_max_of_lt_right hmin) (hmin.trans hmax)

/-- Settles O20: the range of both numbers, and equality exactly where nothing is cut. -/
theorem pwmResultsStayInRange : Obligations.PwmResultsStayInRange := fun p freq duty =>
  have h := pwmCalc_inRange p freq duty
  ⟨h.period, h.compare, pwmCompare_eq_period_iff (Nat.min_le_right _ _)⟩

/-- Settles O21: the period falls with the clamped frequency, which an accepted configuration keeps off 0, and the compare value
rises with the clamped duty. -/
theorem pwmCalcIsMonotone : Obligations.PwmCalcIsMonotone :=
  ⟨fun c f _ _ _ h => pwmPeriod_anti c.params (clamp_freq_pos c f.toNat) (clamp_mono _ _ h),
    fun _ _ _ _ h => pwmCompare_mono _ (min_le_min_right _ h)⟩

/-! ### The stop outside the ROM -/

theorem romRead_of_length_le {p : Params} {a : Nat} (h : p.patternRom.length ≤ a) :
    romRead p a = .error (.romAddress a) := by
  rw [romRead, List.getElem?_eq_none h]

theorem seqUpdate_of_fault {s : State} {f : Fault} (htick : s.tickIn ≠ s.tse.lastTick) (hactive : s.tse.active = true)
    (hdone : s.tse.remaining = 0)
    (hread : romRead s.par (stepAddress s.par s.tse.pattern (s.tse.index + 1)) = .error f) :
    seqUpdate s = .error f := by
  simp [seqUpdate, htick, hactive, hdone, hread]

/-- Settles O24: the update is due for a word that the ROM does not hold. -/
theorem seqUpdateStopsOutsideTheRom : Obligations.SeqUpdateStopsOutsideTheRom := by
  intro s htick hactive hdone houtside
  have hstop := seqUpdate_of_fault (s := s.begin) htick hactive hdone (romRead_of_length_le houtside)
  simp only [exec, execSeqUpdate, hstop]
  rfl

/-! ### The invariants at reset -/

theorem resetWith_blocksInRange (c : Config) : (State.resetWith c).BlocksInRange := by
  obtain ⟨-, -, -, hseed⟩ := c.dscFits
  exact ⟨⟨hseed, Nat.two_pow_pos _⟩, ⟨Nat.zero_le _, Nat.two_pow_pos _, Nat.two_pow_pos _, nofun⟩,
    ⟨Nat.zero_le _, le_rfl⟩, ⟨Nat.zero_le _, nofun, Nat.two_pow_pos _⟩⟩

theorem resetWith_meetsTheInvariants (c : Config) :
    (State.resetWith c).Inv ∧ (State.resetWith c).TimersFit ∧ (State.resetWith c).Exclusive ∧
      (State.resetWith c).IdleNotSticky :=
  ⟨(inv_iff_blocksInRange _).mpr (resetWith_blocksInRange c), ⟨Nat.zero_le _, Nat.zero_le _⟩, .of_quiet rfl rfl rfl,
    nofun⟩

/-- Settles O45: everything is off and zero at reset, but for the seed of the counter, which R3 bounds; the machine's own reset
is that of the platform's configuration. -/
theorem resetMeetsTheInvariants : Obligations.ResetMeetsTheInvariants :=
  ⟨resetWith_meetsTheInvariants, ⟨Config.platform, rfl⟩, resetWith_meetsTheInvariants Config.platform⟩

end Sys2Proof.Machine

/-! ## Runs: R94, R96, R117, R119, R145, R148

Each statement about a run is a predicate over the inputs still to come and the state, which one command on the next inputs
keeps; the induction over the inputs is made once. -/

namespace Sys2Proof.Machine

/-! ### A run of one command -/

section
variable {c : Instr} {i : Inputs} {rest : List Inputs} {s u : State}

/-- A host that presents one set of inputs at a time leaves the next state to the command alone. -/
theorem drive_cons (hdecode : decodeCommand i.cmd = .ok c) (h : exec c (s.withPins i) = .next u) :
    drive (i :: rest) s = drive rest u := by
  obtain ⟨-, -, hupcoming⟩ := exec_keepsInputs h
  have hstep : step (s.withPins i) = .next u := by
    rw [step_of_decode (s := s.withPins i) hdecode, h, afterCommand_next, presentNext_of_nil hupcoming]
  rw [drive, hstep]

/-- What every command of a run keeps, of the inputs to come and the state, holds with none to come at its end. -/
theorem drive_of_kept {P : List Inputs → State → Prop}
    (hkept : ∀ i rest s, P (i :: rest) s → ∃ u, exec c (s.withPins i) = .next u ∧ P rest u) {ins : List Inputs}
    (hcmd : AllCommand c ins) (h : P ins s) : ∃ t, drive ins s = .next t ∧ P [] t := by
  induction ins generalizing s with
  | nil => exact ⟨s, rfl, h⟩
  | cons i rest ih =>
    obtain ⟨hi, hrest⟩ := List.forall_mem_cons.mp hcmd
    obtain ⟨u, hu, hP⟩ := hkept i rest s h
    rw [drive_cons hi hu]
    exact ih hrest hP

end

/-! ### Runs of `SW_UPDATE`: R94, R96 -/

theorem Dsc.sample_lastTick (p : Params) (active : Bool) (tick : Nat) (d : Dsc) :
    (d.sample p active tick).lastTick = tick := by
  unfold Dsc.sample
  split_ifs <;> rfl

/-- A run of equal samples on elapsed ticks is under way: the inputs to come, and what `Q` says of their number and of the DSC
registers. -/
structure State.SampleRun (c : Config) (active : Bool) (Q : Nat → Dsc → Prop) (rest : List Inputs) (s : State) : Prop where
  config : s.config = c
  fresh : FreshTicks c.params s.dsc.lastTick rest
  samples : AllSamples c.params active rest
  place : Q rest.length s.dsc

theorem State.SampleRun.kept {c : Config} {active : Bool} {Q : Nat → Dsc → Prop}
    (hsample : ∀ n d tick, Q (n + 1) d → Q n (d.sample c.params active tick)) (i : Inputs) (rest : List Inputs) (s : State)
    (h : s.SampleRun c active Q (i :: rest)) :
    ∃ u, exec .swUpdate (s.withPins i) = .next u ∧ u.SampleRun c active Q rest := by
  obtain ⟨rfl, ⟨htick, hfresh⟩, hsamples, hplace⟩ := h
  obtain ⟨hactive, hrest⟩ := List.forall_mem_cons.mp hsamples
  have hactive : (s.withPins i).begin.switchActive = active := hactive
  refine ⟨_, exec_swUpdate _, ?_⟩
  rw [swUpdate_of_tick (s := (s.withPins i).begin) htick, hactive]
  exact ⟨rfl, by rw [Dsc.sample_lastTick]; exact hfresh, hrest, hsample _ _ _ hplace⟩

theorem drive_samples {Q : Nat → Dsc → Prop} {active : Bool} {s : State} {ins : List Inputs}
    (hsample : ∀ n d tick, Q (n + 1) d → Q n (d.sample s.par active tick)) (hfresh : FreshTicks s.par s.dsc.lastTick ins)
    (hcmd : AllCommand .swUpdate ins) (hactive : AllSamples s.par active ins) (h : Q ins.length s.dsc) :
    ∃ t, drive ins s = .next t ∧ Q 0 t.dsc := by
  obtain ⟨t, ht, hend⟩ := drive_of_kept (State.SampleRun.kept hsample) hcmd ⟨rfl, hfresh, hactive, h⟩
  exact ⟨t, ht, hend.place⟩

/-- With `n` of `m` active samples to come: still counting towards the press, or pressed and at the ceiling. -/
def Dsc.Pressing (p : Params) (m n : Nat) (d : Dsc) : Prop :=
  (d.status = false ∧ d.count < p.debPress ∧ d.count + n = m) ∨
    (d.status = true ∧ d.count = p.debMax ∧ p.debPress ≤ m)

/-- With `n` of `m` inactive samples to come: still counting down from the ceiling, the status as it was, or released and at the
floor. -/
def Dsc.Releasing (p : Params) (was : Bool) (m n : Nat) (d : Dsc) : Prop :=
  (d.status = was ∧ p.debMax - p.debRelease < d.count ∧ d.count + m = p.debMax + n) ∨
    (d.status = false ∧ d.count = 0 ∧ p.debRelease ≤ m)

/-- Released at the ceiling, however many samples are to come. -/
def Dsc.Cleared (p : Params) (_ : Nat) (d : Dsc) : Prop := d.status = false ∧ d.count = p.debMax

section
variable (c : Config) {m n tick : Nat} {d : Dsc} {was : Bool}

theorem Dsc.Pressing.start (hstatus : d.status = false) (hcount : d.count = 0) : d.Pressing c.params m m := by
  obtain ⟨hpress, -⟩ := c.dscFits
  exact .inl ⟨hstatus, by omega, by omega⟩

theorem Dsc.Pressing.sample (h : d.Pressing c.params m (n + 1)) : (d.sample c.params true tick).Pressing c.params m n := by
  obtain ⟨-, hpress, -⟩ := c.dscFits
  rcases h with ⟨hstatus, hcount, hsum⟩ | ⟨hstatus, hcount, hm⟩
  · have hroom : d.count < c.params.debMax := by omega
    by_cases hlatch : d.count + 1 = c.params.debPress
    · exact .inr (by simp [Dsc.sample, hroom, hlatch]; omega)
    · exact .inl (by simp [Dsc.sample, hroom, hlatch, hstatus]; omega)
  · exact .inr (by simp [Dsc.sample, hstatus, hcount, hm])

theorem Dsc.Pressing.finish (h : d.Pressing c.params m 0) :
    d.status = decide (c.params.debPress ≤ m) ∧ d.count = if m < c.params.debPress then m else c.params.debMax := by
  rcases h with ⟨hstatus, hcount, rfl⟩ | ⟨hstatus, hcount, hm⟩
  · simp [hstatus, hcount]
  · simp [hstatus, hcount, hm, Nat.not_lt.mpr hm]

theorem Dsc.Releasing.start (hstatus : d.status = was) (hcount : d.count = c.params.debMax) :
    d.Releasing c.params was m m := by
  obtain ⟨-, hgap, hrelease, -⟩ := c.dscFits
  exact .inl ⟨hstatus, by omega, by omega⟩

theorem Dsc.Releasing.sample (h : d.Releasing c.params was m (n + 1)) :
    (d.sample c.params false tick).Releasing c.params was m n := by
  obtain ⟨-, hgap, -⟩ := c.dscFits
  rcases h with ⟨hstatus, hcount, hsum⟩ | ⟨hstatus, hcount, hm⟩
  · have hroom : 0 < d.count := by omega
    by_cases hlatch : d.count - 1 = c.params.debMax - c.params.debRelease
    · exact .inr (by simp [Dsc.sample, hroom, hlatch]; omega)
    · exact .inl (by simp [Dsc.sample, hroom, hlatch, hstatus]; omega)
  · exact .inr (by simp [Dsc.sample, hstatus, hcount, hm])

theorem Dsc.Releasing.finish (h : d.Releasing c.params was m 0) :
    d.status = (was && decide (m < c.params.debRelease)) ∧
      d.count = if m < c.params.debRelease then c.params.debMax - m else 0 := by
  rcases h with ⟨hstatus, hcount, hsum⟩ | ⟨hstatus, hcount, hm⟩
  · have hshort : m < c.params.debRelease := by omega
    simp only [hstatus, hshort, decide_true, Bool.and_true, if_true, true_and]
    omega
  · simp [hstatus, hcount, Nat.not_lt.mpr hm]

theorem Dsc.Cleared.sample {p : Params} (h : d.Cleared p (n + 1)) : (d.sample p true tick).Cleared p n := by
  obtain ⟨hstatus, hcount⟩ := h
  simp [Dsc.Cleared, Dsc.sample, hstatus, hcount]

end

/-- From the ceiling the counter comes down one a sample until the release at the `DEB_RELEASE`-th, whatever the status was. -/
theorem drive_release {was : Bool} {s : State} {ins : List Inputs} (hfresh : FreshTicks s.par s.dsc.lastTick ins)
    (hcmd : AllCommand .swUpdate ins) (hsamples : AllSamples s.par false ins) (hstatus : s.dsc.status = was)
    (hcount : s.dsc.count = s.par.debMax) :
    ∃ t, drive ins s = .next t ∧ t.dsc.status = (was && decide (ins.length < s.par.debRelease)) ∧
      t.dsc.count = if ins.length < s.par.debRelease then s.par.debMax - ins.length else 0 := by
  obtain ⟨t, ht, hend⟩ := drive_samples (fun _ _ _ => Dsc.Releasing.sample s.config) hfresh hcmd hsamples
    (Dsc.Releasing.start s.config hstatus hcount)
  exact ⟨t, ht, hend.finish s.config⟩

/-- Settles O17: the two runs end where `Dsc.Pressing` and `Dsc.Releasing` say. -/
theorem pressAndReleaseLatchOnTime : Obligations.PressAndReleaseLatchOnTime := by
  refine ⟨fun s ins hfresh hcmd hsamples hstatus hcount => ?press, fun s ins hfresh hcmd hsamples hstatus hcount => ?release⟩
  case press =>
    obtain ⟨t, ht, hend⟩ := drive_samples (fun _ _ _ => Dsc.Pressing.sample s.config) hfresh hcmd hsamples
      (Dsc.Pressing.start s.config hstatus hcount)
    exact ⟨t, ht, hend.finish s.config⟩
  case release => simpa using drive_release hfresh hcmd hsamples hstatus hcount

/-- Settles O18: a held button finds the counter at the ceiling, and the release from there is counted whatever the status. -/
theorem clearedPressStaysCleared : Obligations.ClearedPressStaysCleared := by
  refine ⟨fun s ins hfresh hcmd hsamples hstatus hcount => ?held, fun s ins hfresh hcmd hsamples hstatus hcount => ?release⟩
  case held =>
    obtain ⟨t, ht, hend⟩ := drive_samples (fun _ _ _ => Dsc.Cleared.sample) hfresh hcmd hsamples ⟨hstatus, hcount⟩
    exact ⟨t, ht, hend⟩
  case release => simpa using drive_release hfresh hcmd hsamples hstatus hcount

/-! ### Runs of `SEQ_UPDATE`: R117, R119 -/

/-- From an idle `s` to `t` the sequencer has stayed idle, and no register but its last tick has moved. -/
structure State.IdleSince (s t : State) : Prop where
  idle : t.tse.active = false
  tse : t.tse = { s.tse with lastTick := t.tse.lastTick }
  dsc : t.dsc = s.dsc
  out : t.out = s.out
  lvg : t.lvg = s.lvg

theorem State.IdleSince.trans {s t u : State} (h : s.IdleSince t) (h' : t.IdleSince u) : s.IdleSince u :=
  ⟨h'.idle, by rw [h'.tse, h.tse], h'.dsc.trans h.dsc, h'.out.trans h.out, h'.lvg.trans h.lvg⟩

/-- An idle update takes the tick at most and answers 0, with no event (R112, R119). -/
theorem exec_seqUpdate_of_idle {s : State} (hidle : s.tse.active = false) :
    ∃ t, exec .seqUpdate s = .next t ∧ t.result = ⟨false, 0, 0, false⟩ ∧ t.events = [] ∧ s.IdleSince t := by
  by_cases htick : s.tickIn = s.tse.lastTick
  · refine ⟨_, exec_seqUpdate_of_noTick htick, ?_⟩
    rw [begin_setResBool_of_idle hidle]
    exact ⟨rfl, rfl, hidle, rfl, rfl, rfl, rfl⟩
  · exact ⟨_, exec_seqUpdate_of_ok (seqUpdate_of_idle (s := s.begin) htick hidle), rfl, rfl, hidle, rfl, rfl, rfl, rfl⟩

/-- A run of updates from the idle `s`, of `m` in all, has come to `t`; what is said of the outputs needs an update to have
run. -/
structure State.IdleRun (s : State) (m : Nat) (rest : List Inputs) (t : State) : Prop where
  idle : s.IdleSince t
  answer : rest.length < m → t.result = ⟨false, 0, 0, false⟩ ∧ t.events = []

theorem State.IdleRun.kept {s : State} {m : Nat} (i : Inputs) (rest : List Inputs) (t : State)
    (h : s.IdleRun m (i :: rest) t) : ∃ u, exec .seqUpdate (t.withPins i) = .next u ∧ s.IdleRun m rest u := by
  obtain ⟨u, hu, hresult, hevents, hsince⟩ := exec_seqUpdate_of_idle (s := t.withPins i) h.idle.idle
  exact ⟨u, hu, h.idle.trans ⟨hsince.idle, hsince.tse, hsince.dsc, hsince.out, hsince.lvg⟩, fun _ => ⟨hresult, hevents⟩⟩

/-- Settles O29: the last update of the run, which there is, answers for the outputs. -/
theorem idleSequencerStaysIdle : Obligations.IdleSequencerStaysIdle := by
  intro s ins hidle hcmd hne
  obtain ⟨t, ht, ⟨-, htse, hdsc, hout, hlvg⟩, hanswer⟩ := drive_of_kept State.IdleRun.kept hcmd
    (show s.IdleRun ins.length ins s from ⟨⟨hidle, rfl, rfl, rfl, rfl⟩, fun hlt => absurd hlt (lt_irrefl _)⟩)
  obtain ⟨hresult, hevents⟩ := hanswer (List.length_pos_of_ne_nil hne)
  exact ⟨t, ht, hresult, hevents, htse, hdsc, hout, hlvg⟩

/-- How many working updates from here to the one that ends the playback: the counts left of the step, one more to leave it, and
the steps after it (R117). -/
def State.updatesLeft (s : State) : Nat :=
  if s.tse.active then
    s.tse.remaining + 1 + playUpdates (s.par.patternRom.drop (stepAddress s.par s.tse.pattern (s.tse.index + 1)))
  else 0

theorem active_eq_updatesLeft_pos (s : State) : s.tse.active = decide (0 < s.updatesLeft) := by
  cases h : s.tse.active <;> simp [State.updatesLeft, h]

/-- What a word plays, at its address. -/
theorem playUpdates_of_romRead {p : Params} {a : Nat} {w : StepWord} (h : romRead p a = .ok w) :
    playUpdates (p.patternRom.drop a) =
      if stepDuration w = 0#16 then 0 else (stepDuration w).toNat + 1 + playUpdates (p.patternRom.drop (a + 1)) := by
  have hget : p.patternRom[a]? = some w := by
    unfold romRead at h
    split at h
    next v hv => cases h; exact hv
    next => cases h
  obtain ⟨hlt, rfl⟩ := List.getElem?_eq_some_iff.mp hget
  rw [List.drop_eq_getElem_cons hlt, playUpdates]

/-- A start has the whole pattern to play. -/
theorem seqStart_updatesLeft (id : PatternId) (s : State) :
    (s.seqStart id).updatesLeft = playUpdates (s.par.patternRom.drop (s.par.patternBase.get id)) := by
  rw [show s.par.patternBase.get id = stepAddress s.par id 0 from rfl, playUpdates_of_romRead (romRead_stepZero s.config id),
    seqStart_eq]
  split_ifs <;> rfl

theorem seqStart_lastTick (id : PatternId) (s : State) : (s.seqStart id).tse.lastTick = s.tickIn := by
  rw [seqStart_eq]
  split_ifs <;> rfl

/-- After an update the last-tick register holds the tick, whether the update did work or not. -/
theorem seqUpdate_lastTick {s t : State} {playing : Bool} (hu : seqUpdate s = .ok (playing, t)) :
    t.tse.lastTick = s.tickIn := by
  rcases seqUpdate_cases hu with ⟨htick, -, rfl⟩ | ⟨-, -, -, rfl⟩ | ⟨-, -, -, -, rfl⟩ | ⟨w, -, -, -, -, -, -, rfl⟩ |
    ⟨w, -, -, -, -, -, -, rfl⟩
  · exact htick.symm
  · rfl
  · rfl
  · rfl
  · rfl

/-- A working update is one update fewer to come. -/
theorem seqUpdate_updatesLeft {s t : State} {playing : Bool} (htick : s.tickIn ≠ s.tse.lastTick)
    (hu : seqUpdate s = .ok (playing, t)) : t.updatesLeft = s.updatesLeft - 1 := by
  rcases seqUpdate_cases hu with ⟨hno, -, -⟩ | ⟨-, hidle, -, rfl⟩ | ⟨-, hactive, hcount, -, rfl⟩ |
    ⟨w, -, hactive, hdone, hread, hend, -, rfl⟩ | ⟨w, -, hactive, hdone, hread, hstep, -, rfl⟩
  · exact absurd hno htick
  · simp [State.updatesLeft, hidle]
  · simp only [State.updatesLeft, State.countStep_tse, State.takeSeqTick_tse, hactive, if_true]
    dsimp only [State.countStep_config, State.takeSeqTick_config, State.par]
    omega
  · simp [State.updatesLeft, hactive, hdone, playUpdates_of_romRead hread, hend]
  · simp [State.updatesLeft, hactive, hdone, playUpdates_of_romRead hread, hstep]
    rfl

theorem Tse.InRange.inPattern {s : State} (h : s.tse.InRange s.par) : s.InPattern := ⟨h.index, h.beforeEnd⟩

/-- A run of working updates, of `m` in all, is under way.  Both the updates left and the inputs to come fall by one with each,
so their difference, cut off at 0, is the same `k` all along. -/
structure State.PlaybackRun (c : Config) (m k : Nat) (rest : List Inputs) (s : State) : Prop where
  config : s.config = c
  fresh : FreshTicks c.params s.tse.lastTick rest
  tse : s.tse.InRange c.params
  left : s.updatesLeft - rest.length = k
  answer : rest.length < m → s.result.resBool = s.tse.active

theorem State.PlaybackRun.kept {c : Config} {m k : Nat} (i : Inputs) (rest : List Inputs) (s : State)
    (h : s.PlaybackRun c m k (i :: rest)) :
    ∃ u, exec .seqUpdate (s.withPins i) = .next u ∧ u.PlaybackRun c m k rest := by
  obtain ⟨rfl, ⟨htick, hfresh⟩, htse, hleft, -⟩ := h
  obtain ⟨playing, u, hu⟩ := seqUpdate_ok_of_inPattern (Tse.InRange.inPattern (s := (s.withPins i).begin) htse)
  obtain ⟨-, -, hconfig, -⟩ := seqUpdate_frame hu
  have hcount : u.updatesLeft = s.updatesLeft - 1 := seqUpdate_updatesLeft (s := (s.withPins i).begin) htick hu
  have hlast : u.tse.lastTick = i.tickSeen s.par := seqUpdate_lastTick hu
  have hrange : u.tse.InRange s.par := seqUpdate_tse_inRange (s := (s.withPins i).begin) htse hu
  have hplaying : playing = u.tse.active := seqUpdate_playing hu
  refine ⟨_, exec_seqUpdate_of_ok hu, hconfig, by rw [hlast]; exact hfresh, hrange, ?_, fun _ => hplaying⟩
  calc u.updatesLeft - rest.length
    _ = s.updatesLeft - (rest.length + 1) := by omega
    _ = k := hleft

/-- Settles O28: the updates left fall by one with each update from the length of the pattern, and the answer is whether any are
left. -/
theorem playbackHasTheSpecLength : Obligations.PlaybackHasTheSpecLength := by
  intro s u id ins hstart hfresh hcmd hne
  rw [exec_seqStart_toBits] at hstart
  obtain rfl := Host.Outcome.next.inj hstart
  have hlast : (s.begin.seqStart id).tse.lastTick = s.tickIn := seqStart_lastTick id s.begin
  obtain ⟨t, ht, -, -, -, hleft, hanswer⟩ := drive_of_kept State.PlaybackRun.kept hcmd
    (show (s.begin.seqStart id).PlaybackRun s.config ins.length _ ins from
      ⟨by simp, by rw [hlast]; exact hfresh, seqStart_tse_inRange id s.begin, rfl, fun hlt => absurd hlt (lt_irrefl _)⟩)
  have hactive : t.result.resBool = t.tse.active := hanswer (List.length_pos_of_ne_nil hne)
  refine ⟨t, ht, ?_, hactive.symm⟩
  rw [seqStart_updatesLeft] at hleft
  rw [hactive, active_eq_updatesLeft_pos]
  exact decide_eq_decide.mpr (by dsimp only [State.par, State.begin_config, List.length_nil] at *; omega)

/-! ### Runs of `LVG_UPDATE` in CHECK_HORN_ACTIVE: R145, R148 -/

/-- A run of held ticks that does not outlast the max-honk timer is under way: as long as inputs are to come the press has not
been cleared. -/
structure State.HeldRun (c : Config) (rest : List Inputs) (s : State) : Prop where
  config : s.config = c
  fresh : FreshTicks c.params s.lvg.lastTick rest
  state : s.lvg.state = .checkHornActive
  pressed : rest ≠ [] → s.dsc.status = true
  fits : rest.length ≤ max s.lvg.guardTimer 1

/-- The state that a held tick on the inputs `i` starts from. -/
def State.heldTick (i : Inputs) (s : State) : State := guardHeldTick (s.withPins i).begin.takeGuardTick

section
variable {c : Config} {i : Inputs} {rest : List Inputs} {s : State}

theorem State.HeldRun.exec (h : s.HeldRun c (i :: rest)) : exec .lvgUpdate (s.withPins i) = .next (s.heldTick i) := by
  obtain ⟨rfl, ⟨htick, -⟩, hstate, hpressed, -⟩ := h
  rw [exec_lvgUpdate_of_handler (s := s.withPins i) htick (guardHandler_of_checkHornActive hstate), guardCheckHornActive_eq]
  exact congrArg _ (if_pos (hpressed (List.cons_ne_nil _ _)))

theorem State.HeldRun.next (h : s.HeldRun c (i :: rest)) : (s.heldTick i).HeldRun c rest := by
  obtain ⟨rfl, ⟨-, hfresh⟩, hstate, hpressed, hfits⟩ := h
  rw [State.heldTick, guardHeldTick_eq]
  have hpressed : s.dsc.status = true := hpressed (List.cons_ne_nil _ _)
  rw [List.length_cons] at hfits
  refine ⟨rfl, hfresh, hstate, fun hne => ?_, ?_⟩
  · have hlen : 0 < rest.length := List.length_pos_of_ne_nil hne
    have htimer : ¬s.lvg.guardTimer ≤ 1 := by omega
    exact (if_neg htimer).trans hpressed
  · show rest.length ≤ max (s.lvg.guardTimer - 1) 1
    omega

theorem State.HeldRun.start (hstate : s.lvg.state = .checkHornActive) (hpressed : s.dsc.status = true)
    (hfresh : FreshTicks s.par s.lvg.lastTick rest) (hfits : rest.length ≤ max s.lvg.guardTimer 1) :
    s.HeldRun s.config rest :=
  ⟨rfl, hfresh, hstate, fun _ => hpressed, hfits⟩

end

/-- A run of held ticks, each of which keeps `P`, completes in CHECK_HORN_ACTIVE with `P` at its end. -/
theorem drive_held {P : List Inputs → State → Prop} {s : State} {ins : List Inputs} (hrun : s.HeldRun s.config ins)
    (hcmd : AllCommand .lvgUpdate ins) (h : P ins s)
    (hkept : ∀ i rest v, v.config = s.config → P (i :: rest) v → P rest (v.heldTick i)) :
    ∃ t, drive ins s = .next t ∧ t.lvg.state = .checkHornActive ∧ P [] t := by
  obtain ⟨t, ht, hend, hP⟩ := drive_of_kept (P := fun rest v => v.HeldRun s.config rest ∧ P rest v)
    (fun i rest v ⟨hrun, hP⟩ => ⟨_, hrun.exec, hrun.next, hkept i rest v hrun.config hP⟩) hcmd ⟨hrun, h⟩
  exact ⟨t, ht, hend.state, hP⟩

/-- With the inputs `rest` to come, `on` says whether the horn will be on at the end: it is, or the commit timer will elapse. -/
def State.HornWillBe (on : Bool) (rest : List Inputs) (s : State) : Prop :=
  (s.out.hornOut || decide (max s.lvg.commitTimer 1 ≤ rest.length)) = on

theorem State.HornWillBe.heldTick {on : Bool} {i : Inputs} {rest : List Inputs} {s : State}
    (h : s.HornWillBe on (i :: rest)) : (s.heldTick i).HornWillBe on rest := by
  rw [← h, State.heldTick, guardHeldTick_eq]
  show ((if s.lvg.commitTimer ≤ 1 then true else s.out.hornOut) || decide (max (s.lvg.commitTimer - 1) 1 ≤ rest.length)) =
    (s.out.hornOut || decide (max s.lvg.commitTimer 1 ≤ rest.length + 1))
  by_cases hcommit : s.lvg.commitTimer ≤ 1
  · simp [hcommit]
  · have hmax : max (s.lvg.commitTimer - 1) 1 ≤ rest.length ↔ max s.lvg.commitTimer 1 ≤ rest.length + 1 := by omega
    simp only [hcommit, if_false, hmax]

/-- Settles O57: with the horn off at the start, what it will be is whether the run reaches the commit. -/
theorem tapIsSilentAndHoldHonks : Obligations.TapIsSilentAndHoldHonks := by
  intro s ins hstate hpressed hsilent hfresh hcmd _ hfits
  obtain ⟨t, ht, hstate', hhorn⟩ := drive_held (.start hstate hpressed hfresh hfits) hcmd
    (show s.HornWillBe (decide (max s.lvg.commitTimer 1 ≤ ins.length)) ins by simp [State.HornWillBe, hsilent])
    fun _ _ _ _ => State.HornWillBe.heldTick
  exact ⟨t, ht, hstate', by simpa [State.HornWillBe] using hhorn⟩

/-- Between alternating readings, of `m` in all: the counter is 0 before a tripped one and 1 before the other, and the sticky
flag is down. -/
def State.Alternates (m : Nat) (rest : List Inputs) (s : State) : Prop :=
  s.lvg.lvSticky = false ∧ (s.lvg.lvCount + rest.length) % 2 = m % 2 ∧
    ∃ tripped, Alternating tripped rest ∧ s.lvg.lvCount = if tripped then 0 else 1

theorem State.Alternates.heldTick {m : Nat} {i : Inputs} {rest : List Inputs} {s : State} (hconfirm : 2 ≤ s.par.lvConfirm)
    (h : s.Alternates m (i :: rest)) : (s.heldTick i).Alternates m rest := by
  obtain ⟨hsticky, hparity, tripped, ⟨hreading, hrest⟩, hcount⟩ := h
  obtain ⟨-, (hmax : s.par.lvConfirm ≤ s.par.lvCountMax), -⟩ := s.config.lvgFits
  rw [List.length_cons] at hparity
  rw [State.heldTick, guardHeldTick_eq]
  cases tripped with
  | true =>
    have hzero : s.lvg.lvCount = 0 := hcount
    have hone : satInc s.lvg.lvCount s.par.lvCountMax = 1 := by rw [hzero]; exact if_pos (by omega)
    refine ⟨?_, ?_, false, hrest, ?_⟩
    · simp [hsticky, hreading, hone]; omega
    · simp [hreading, hone]; omega
    · simp [hreading, hone]
  | false =>
    have hone : s.lvg.lvCount = 1 := hcount
    refine ⟨?_, ?_, true, hrest, ?_⟩
    · simp [hsticky, hreading]
    · simp [hreading, hone]; omega
    · simp [hreading, hone]

/-- Settles O58: the counter has the parity of the readings so far, and is never above 1. -/
theorem alternatingReadingsNeverConfirm : Obligations.AlternatingReadingsNeverConfirm := by
  intro s ins hstate hpressed hcount hsticky hconfirm hfresh hcmd halternate hfits
  obtain ⟨t, ht, -, hsticky', hparity, tripped, -, hcount'⟩ := drive_held (P := State.Alternates ins.length)
    (.start hstate hpressed hfresh hfits) hcmd ⟨hsticky, by rw [hcount, Nat.zero_add], true, halternate, hcount⟩
    fun i rest v hconfig => State.Alternates.heldTick (by rw [State.par, hconfig]; exact hconfirm)
  refine ⟨t, ht, ?_, hsticky'⟩
  rw [List.length_nil] at hparity
  split at hcount' <;> omega

end Sys2Proof.Machine
